-- ==== Sys2Proof/Word.lean ====
section
/-! DEFINITION. The widths of the PA416's values (R1, R14, R63): words, tick counts, event counters, lane numbers. -/

namespace Sys2Proof

/-- The 16-bit word of every block and frame (R1). -/
abbrev Word := BitVec 16

/-- A 32-bit tick count: TB, a timestamp, a release time, a slot time, a due time (R63). -/
abbrev Tick := BitVec 32

/-- A 32-bit event counter (R14, R34, R45, R93, R138). -/
abbrev Count := BitVec 32

/-- A lane number 0..15. -/
abbrev LaneId := Fin 16

end Sys2Proof
end

