-- ==== Sys2Proof/Config.lean ====
section
/-! DEFINITION. What the part fixes: its capacities, thresholds and identity. No value of the spec is left open, so no
constant of this file is free. -/

namespace Sys2Proof.Config

/-- Completed media blocks a receive buffer holds (R16). -/
def bufferPlaces : Nat := 2

/-- Longest payload of a block, in words (R2, R13). -/
def maxPayload : Nat := 256

/-- Flow table entries (R25). -/
def tableEntries : Nat := 64

/-- Stale blocks that make a run (R32). -/
def staleRunLimit : Nat := 8

/-- Words of a store cell (R47). -/
def cellWords : Nat := 32

/-- Cells of the block store (R47). -/
def storeCells : Nat := 1024

/-- Block records of the store (R47). -/
def storeRecords : Nat := 512

/-- Free cells at which the store-full flag may clear (R53). -/
def recoveryCells : Nat := 128

/-- Free records at which the store-full flag may clear (R53). -/
def recoveryRecords : Nat := 64

/-- Presentation queue entries of a lane (R79). -/
def queueEntries : Nat := 64

/-- Command queue places of a lane (R106). -/
def commandPlaces : Nat := 4

/-- SDL entries (R164). -/
def sdlEntries : Nat := 32

/-- Serials are 0..65,534 (R164); this is the largest. -/
def lastSerial : Nat := 65534

/-- Control intake entries (R122). -/
def intakeEntries : Nat := 4

/-- Reply cache entries (R133). -/
def cacheEntries : Nat := 8

/-- Report queue entries (R177). -/
def reportEntries : Nat := 16

/-- A notice is admitted only while fewer entries than this are held (R180). -/
def noticeLimit : Nat := 12

/-- Longest response payload, in words (R131). -/
def responseWords : Nat := 256

/-- Result words for which a block of one directive has room: 256 − 4 − 2 (R131). -/
def loneRoom : Nat := 250

/-- The horizon, 2^30 ticks (R64). -/
def horizon : Nat := 1073741824

/-- Largest number of parameter words of a directive (R4). -/
def maxParams : Nat := 64

/-- Most directives of a control block (R4). -/
def maxDirectives : Nat := 16

/-- UNIT_READ word 0 (R143). -/
def partCode : Word := 0x0416

/-- UNIT_READ word 1, for the parts this edition describes (R143). -/
def revision : Word := 0x0001

end Sys2Proof.Config
end

