-- ==== Sys2Proof/Syntax.lean ====
section
/-! DEFINITION. The commands of the PA416, one constructor for each row of spec/opcode_table.json, and the names their
operands use (ports, lane states, status codes, directive codes, notices). -/

namespace Sys2Proof

/-- An ingress port, A (0) or B (1). -/
inductive PortId where
  | a
  | b
  deriving DecidableEq, Repr

/-- The transport states of a lane (R98). -/
inductive LaneState where
  | idle
  | running
  | held
  | stepping
  | seeking
  | cueing
  | draining
  | parked
  deriving DecidableEq, Repr

/-- The status codes (R134), in code order. -/
inductive Status where
  | ok
  | queued
  | scheduled
  | notRun
  | unknown
  | badParam
  | badLane
  | noEntry
  | tableFull
  | laneBusy
  | notActive
  | order
  | cmdFull
  | noTime
  | past
  | tooFar
  | sdlFull
  | notSchedulable
  | lanesActive
  | noRoom
  | active
  deriving DecidableEq, Repr

/-- The directives of the code table (R5), in code order. -/
inductive Directive where
  | echo
  | unitRead
  | groupSet
  | noticeMask
  | restart
  | portRead
  | portZero
  | flowSet
  | flowClear
  | flowRead
  | flowList
  | flowZero
  | laneSet
  | laneSource
  | laneRead
  | lanePeek
  | laneZero
  | start
  | halt
  | run
  | hold
  | step
  | seek
  | cue
  | stop
  | timeSet
  | timeAdjust
  | timeRead
  | schedAt
  | sdlCancel
  | sdlRead
  deriving DecidableEq, Repr

/-- Kinds of LANE_REFUSED (R60). -/
inductive RefusalKind where
  | queue
  | quota
  | store
  deriving DecidableEq, Repr

/-- Causes of FLOW_RESYNC (R185). -/
inductive ResyncCause where
  | disc
  | staleRun
  deriving DecidableEq, Repr

/-- Selector of TIME_CHANGED (R71). -/
inductive TimeSelector where
  | set
  | adjust
  deriving DecidableEq, Repr

/-- Causes of UNIT_RESTARTED (R186). -/
inductive RestartCause where
  | hard
  | lanes
  | full
  deriving DecidableEq, Repr

/-- The notices with their arguments (R185). -/
inductive Notice where
  | portUp (port : PortId)
  | portDown (port : PortId)
  | portErrors (port : PortId)
  | flowSilent (flow : Word)
  | flowResumed (flow : Word)
  | flowGap (flow missing : Word)
  | flowResync (flow : Word) (cause : ResyncCause)
  | pathDown (flow : Word) (port : PortId)
  | pathUp (flow : Word) (port : PortId)
  | storeFull (cells records : Word)
  | storeRecovered (cells records : Word)
  | laneState (lane : LaneId) (old new : LaneState)
  | laneUnderrun (lane : LaneId)
  | laneRefused (lane : LaneId) (kind : RefusalKind)
  | laneOverrun (lane : LaneId)
  | schedDone (serial : Word) (code : Directive) (status : Status) (late : Bool)
  | schedFlushed (count : Word)
  | controlOverrun
  | timeChanged (old new : Tick) (selector : TimeSelector)
  | unitRestarted (cause : RestartCause)
  deriving DecidableEq, Repr

/-- The commands. A directive carries its K parameter words; `restartFull` and `sdlCancelAll` are the directives RESTART
with parameter 2 and SDL_CANCEL with parameter 0xFFFF (log entry 15). -/
inductive Instr where
  /-- HARD_RESET: RESET_N asserted, with the levels of ADDR_S5..ADDR_S0 (R139). -/
  | hardReset (straps : BitVec 6)
  /-- LINK_GAIN at a port (R9). -/
  | linkGain (port : PortId)
  /-- LINK_LOSS at a port (R9, R11). -/
  | linkLoss (port : PortId)
  /-- BLOCK_START at a port (R10). -/
  | blockStart (port : PortId)
  /-- BLOCK_COMPLETE at a port, with the words received (R13). -/
  | blockComplete (port : PortId) (words : List Word)
  /-- FRAMING_FAULT at a port (R12). -/
  | framingFault (port : PortId)
  /-- TAKE: the arbiter takes one block (R24). -/
  | take
  /-- WATCH_SWEEP (R36). -/
  | watchSweep
  /-- SLOT_EVENT of a lane (R83). -/
  | slotEvent (lane : LaneId)
  /-- FRAME_COMPLETION of a lane (R89). -/
  | frameCompletion (lane : LaneId)
  /-- CONTROL_BLOCK_OFFER with arrival port, control sequence (W2) and control payload (R124). -/
  | controlBlockOffer (port : PortId) (seq : Word) (payload : List Word)
  /-- EXECUTION_START (R127). -/
  | executionStart
  /-- UNKNOWN_CODE: a directive whose code is not in the table (R5). -/
  | unknownCode (code : BitVec 8) (params : List Word)
  /-- ECHO (R142). -/
  | echo (params : List Word)
  /-- UNIT_READ (R143). -/
  | unitRead (params : List Word)
  /-- GROUP_SET (R135). -/
  | groupSet (params : List Word)
  /-- NOTICE_MASK (R184). -/
  | noticeMask (params : List Word)
  /-- RESTART_LANES: RESTART with any parameters but the single word 2 (R136). -/
  | restartLanes (params : List Word)
  /-- RESTART_FULL: RESTART with the single parameter 2 (R137). -/
  | restartFull
  /-- PORT_READ (R19). -/
  | portRead (params : List Word)
  /-- PORT_ZERO (R20). -/
  | portZero (params : List Word)
  /-- FLOW_SET (R39, R40). -/
  | flowSet (params : List Word)
  /-- FLOW_CLEAR (R41). -/
  | flowClear (params : List Word)
  /-- FLOW_READ (R43). -/
  | flowRead (params : List Word)
  /-- FLOW_LIST (R44). -/
  | flowList (params : List Word)
  /-- FLOW_ZERO (R42). -/
  | flowZero (params : List Word)
  /-- LANE_SET (R76). -/
  | laneSet (params : List Word)
  /-- LANE_SOURCE (R92). -/
  | laneSource (params : List Word)
  /-- LANE_READ (R95). -/
  | laneRead (params : List Word)
  /-- LANE_PEEK (R96). -/
  | lanePeek (params : List Word)
  /-- LANE_ZERO (R94). -/
  | laneZero (params : List Word)
  /-- START (R102). -/
  | start (params : List Word)
  /-- HALT (R104). -/
  | halt (params : List Word)
  /-- RUN (R106). -/
  | run (params : List Word)
  /-- HOLD (R106). -/
  | hold (params : List Word)
  /-- STEP (R106). -/
  | step (params : List Word)
  /-- SEEK (R106). -/
  | seek (params : List Word)
  /-- CUE (R106). -/
  | cue (params : List Word)
  /-- STOP (R106). -/
  | stop (params : List Word)
  /-- TIME_SET (R67). -/
  | timeSet (params : List Word)
  /-- TIME_ADJUST (R69). -/
  | timeAdjust (params : List Word)
  /-- TIME_READ (R72). -/
  | timeRead (params : List Word)
  /-- AT (R166). -/
  | schedAt (params : List Word)
  /-- SDL_CANCEL with any parameters but the single word 0xFFFF (R174). -/
  | sdlCancel (params : List Word)
  /-- SDL_CANCEL_ALL: SDL_CANCEL with the single parameter 0xFFFF (R174). -/
  | sdlCancelAll
  /-- SDL_READ (R163). -/
  | sdlRead (params : List Word)
  /-- EXPIRY of the head SDL entry (R169). -/
  | expiry
  /-- OVERDUE_REQUEST served by the scheduler (R171). -/
  | overdueRequest
  /-- NOTICE_REQUEST: one notice request served (R180). -/
  | noticeRequest (notice : Notice)
  /-- REPORT_COMPLETION on RPT (R183). -/
  | reportCompletion
  /-- RPT_HOLD_CHANGE to a level (R183). -/
  | rptHoldChange (asserted : Bool)
  /-- TB_TICK: one REFCLK period (R63). -/
  | tbTick
  deriving DecidableEq, Repr

end Sys2Proof
end

