-- ==== Sys2Proof/Machine/State.lean ====
section
/-! DEFINITION. The state of the PA416, block by block (00_scope.md, "Block diagram"), as plain data; the reasons a step can
stop; and the state right after hard reset. -/

namespace Sys2Proof.Machine

/-- One value for each ingress port. -/
structure PerPort (α : Type) where
  a : α
  b : α
  deriving DecidableEq, Repr

/-! ## Ingress ports -/

/-- A checked media block in a receive buffer (R16). Its length n is the payload's length. -/
structure Media where
  flow : Word
  seq : Word
  pts : Tick
  marker : Bool
  disc : Bool
  payload : List Word
  deriving DecidableEq, Repr

/-- The eight port counters (R14). -/
structure PortCounters where
  completed : Count
  mediaGood : Count
  controlGood : Count
  crc : Count
  length : Count
  kind : Count
  truncated : Count
  overflow : Count
  deriving DecidableEq, Repr

/-- An ingress port (R9, R10, R14, R16, R18). -/
structure Port where
  /-- Link state UP. -/
  up : Bool
  /-- A block is in reception. -/
  receiving : Bool
  /-- Receive buffer, oldest at the head. -/
  buffer : List Media
  counters : PortCounters
  /-- Port error sticky flag. -/
  errorFlag : Bool
  deriving DecidableEq, Repr

/-! ## Flow classifier -/

/-- The states of a flow entry (R25). -/
inductive FlowState where
  | armed
  | live
  | silent
  deriving DecidableEq, Repr

/-- The port set of a flow entry (R25). -/
inductive PortSet where
  | a
  | b
  | both
  deriving DecidableEq, Repr

/-- A path record (R26). A port outside the entry's port set is held as DOWN with count 0 (log entry 14). -/
structure Path where
  up : Bool
  silence : BitVec 8
  deriving DecidableEq, Repr

/-- The eight counters of a flow entry (R34). -/
structure FlowCounters where
  accepted : Count
  duplicates : Count
  stale : Count
  gaps : Count
  recovered : Count
  resyncs : Count
  wrongPort : Count
  unplaced : Count
  deriving DecidableEq, Repr

/-- A flow entry (R25). -/
structure FlowEntry where
  flow : Word
  state : FlowState
  ports : PortSet
  /-- Lapse limit in sweeps; 0 disables silence detection. -/
  lapse : BitVec 8
  paths : PerPort Path
  /-- H, the highest accepted sequence; absent while ARMED. -/
  high : Option Word
  /-- Bit k is the mark of sequence H − k (R43). -/
  window : BitVec 32
  /-- 0..7 (R32). -/
  staleRun : Nat
  counters : FlowCounters
  gapFlag : Bool
  deriving DecidableEq, Repr

/-- The flow classifier (R22, R23, R25, R35, R45). -/
structure Classifier where
  /-- Entries in ascending flow identifier. -/
  table : List FlowEntry
  unknown : PerPort Count
  lastServed : PortId
  sweepNumber : Word
  /-- Ticks counted in the present sweep period. -/
  sweepTimer : BitVec 16
  /-- Expiries of the sweep timer not yet served (log entry 7). -/
  sweepsDue : Nat
  deriving DecidableEq, Repr

/-! ## Block store -/

/-- A block record (R47). `ref` is the model's name for it (log entry 13); `holders` is the reference count. -/
structure Record where
  ref : Nat
  payload : List Word
  holders : Nat
  deriving DecidableEq, Repr

/-- The block store (R47, R53). -/
structure Store where
  /-- Stored blocks in ascending `ref`. -/
  records : List Record
  freeCells : Nat
  freeRecords : Nat
  /-- Store-full flag. -/
  fullFlag : Bool
  deriving DecidableEq, Repr

/-! ## Lane schedulers -/

/-- A presentation queue entry, and the held unit it becomes (R59, R79). -/
structure Entry where
  block : Nat
  flow : Word
  seq : Word
  pts : Tick
  release : Tick
  marker : Bool
  disc : Bool
  port : PortId
  cells : Nat
  deriving DecidableEq, Repr

/-- The stop modes (R100). -/
inductive StopMode where
  | fill
  | last
  deriving DecidableEq, Repr

/-- A queued transport command (R106). -/
inductive Command where
  | run
  | hold
  | step
  | seek
  | cue
  | stop (mode : StopMode)
  deriving DecidableEq, Repr

/-- The preceding accepted command (R100). -/
inductive LastCommand where
  | none
  | start
  | run
  | hold
  | step
  | seek
  | cue
  | stop
  deriving DecidableEq, Repr

/-- A lane's configuration (R75), each field as LANE_SET carries it. -/
structure LaneConfig where
  /-- 0 means none. -/
  source : Word
  cn : Tick
  cd : Word
  /-- Downstream delay D. -/
  delay : Tick
  /-- Offset O, two's complement. -/
  offset : Tick
  quota : Word
  /-- Word divisor W. -/
  divisor : Word
  fillWord : Word
  fillLength : Word
  deriving DecidableEq, Repr

/-- The eleven counters of a lane (R93). -/
structure LaneCounters where
  presented : Count
  repeated : Count
  filled : Count
  skipped : Count
  late : Count
  early : Count
  refusedQueue : Count
  refusedQuota : Count
  refusedStore : Count
  flushed : Count
  overruns : Count
  deriving DecidableEq, Repr

/-- The kinds of slot frame (R8). -/
inductive FrameKind where
  | unitFrame
  | repeatFrame
  | fillFrame
  deriving DecidableEq, Repr

/-- The slot frame in transmission, fixed when it begins (R8, R88). -/
structure Frame where
  kind : FrameKind
  lstate : LaneState
  marker : Bool
  disc : Bool
  flow : Word
  seq : Word
  slot : Tick
  upts : Tick
  /-- FLEN. -/
  length : Nat
  /-- The block it holds; none for FILL. -/
  block : Option Nat
  fillWord : Word
  /-- W as it stood when the frame began. -/
  divisor : Word
  /-- REFCLK periods since the slot event. -/
  elapsed : Nat
  deriving DecidableEq, Repr

/-- A lane scheduler (R74..R120). -/
structure Lane where
  config : LaneConfig
  state : LaneState
  queue : List Entry
  /-- The current unit; in PARKED, the parked unit. -/
  held : Option Entry
  /-- Command queue, oldest at the head. -/
  commands : List Command
  last : LastCommand
  stopMode : Option StopMode
  /-- Next slot time; 0 in IDLE (log entry 14). -/
  nextSlot : Tick
  /-- Grid remainder; 0 in IDLE. -/
  remainder : Word
  /-- Datum; 0 in IDLE. -/
  datum : Tick
  counters : LaneCounters
  underrun : Bool
  refused : Bool
  overrun : Bool
  /-- The slot frame in transmission. -/
  frame : Option Frame
  deriving DecidableEq, Repr

/-! ## Time base and directive scheduler -/

/-- The time base (R63). -/
structure TimeBase where
  tb : Tick
  /-- State SET. -/
  isSet : Bool
  deriving DecidableEq, Repr

/-- An SDL entry (R164). K′ is the number of parameters. -/
structure SdlEntry where
  serial : Word
  due : Tick
  code : Directive
  params : List Word
  deriving DecidableEq, Repr

/-- An expiry in service: the entry that has left the list and whose owner has not answered yet, with its late flag (R165, R169). -/
structure ExpiryInService where
  entry : SdlEntry
  late : Bool
  deriving DecidableEq, Repr

/-- The directive scheduler (R164, R165, R167). -/
structure Scheduler where
  /-- The SDL, head first. -/
  list : List SdlEntry
  nextSerial : Word
  /-- Overdue requests not yet served to their end; the list is held while there is one (R68, R165, log entry 19). -/
  overdue : Nat
  /-- The expiry in service, if any (R165). -/
  service : Option ExpiryInService
  deriving DecidableEq, Repr

/-- When another block answers, or serves what it is asked: in the step that asks it, or in a later one (log entries 22, 26). -/
inductive Moment where
  | atOnce
  | later
  deriving DecidableEq, Repr

/-! ## Control unit -/

/-- A directive envelope (R4). -/
structure Envelope where
  code : BitVec 8
  params : List Word
  deriving DecidableEq, Repr

/-- A directive's entry in a response (R6). -/
structure ResultEntry where
  code : BitVec 8
  status : Status
  results : List Word
  deriving DecidableEq, Repr

/-- An intake entry (R122). -/
structure IntakeEntry where
  origin : Word
  seq : Word
  port : PortId
  sweep : Word
  payload : List Word
  deriving DecidableEq, Repr

/-- A reply-cache entry (R133). -/
structure CacheEntry where
  origin : Word
  seq : Word
  port : PortId
  sweep : Word
  response : List Word
  deriving DecidableEq, Repr

/-- Block status (R6): COMPLETE, STOPPED, MALFORMED. -/
inductive BlockStatus where
  | complete
  | stopped
  | malformed
  deriving DecidableEq, Repr

/-- The block in execution: envelopes not yet issued, and entries made (R129). -/
structure Execution where
  todo : List Envelope
  entries : List ResultEntry
  /-- Its block status once its last entry is made and its finish is still to be served (R132, log entry 26). -/
  ended : Option BlockStatus := none
  deriving DecidableEq, Repr

/-- The scopes of RESTART (R136). -/
inductive RestartScope where
  | lanes
  | full
  deriving DecidableEq, Repr

/-- A RESTART in progress (R136, R137): the lanes that have not yet answered their restart requests. -/
structure RestartInProgress where
  scope : RestartScope
  waiting : List LaneId
  deriving DecidableEq, Repr

/-- A directive in service whose owners are asked in turn (R143, R146): UNIT_READ, PORT_READ or PORT_ZERO. -/
structure Inquiry where
  envelope : Envelope
  /-- How many of the owners have answered. -/
  asked : Nat
  /-- The words they have given, in order. -/
  words : List Word
  deriving DecidableEq, Repr

/-- The five control counters (R138). -/
structure ControlCounters where
  notMine : Count
  twins : Count
  retries : Count
  retriesDropped : Count
  overrun : Count
  deriving DecidableEq, Repr

/-- The control unit (R121..R139). -/
structure Control where
  unitAddr : BitVec 6
  group : Option (BitVec 8)
  intake : List IntakeEntry
  /-- EXECUTING when present, IDLE when absent. -/
  execution : Option Execution
  /-- The RESTART it waits for, if any (R136, R137, log entry 27). -/
  restart : Option RestartInProgress
  /-- The directive whose owners it asks in turn, if some have answered and others not (R143, R146, log entry 9). -/
  inquiry : Option Inquiry
  /-- Reply cache, oldest first. -/
  cache : List CacheEntry
  counters : ControlCounters
  /-- CONTROL_OVERRUN sticky flag. -/
  overrunFlag : Bool
  /-- The answer last received from an owner (R121, log entry 5). -/
  lastAnswer : Option ResultEntry
  deriving DecidableEq, Repr

/-- A control block offered to the control unit and not yet served (R15, R121). -/
structure Offer where
  port : PortId
  seq : Word
  payload : List Word
  deriving DecidableEq, Repr

/-! ## Report generator -/

/-- The kinds of report (R177). -/
inductive ReportKind where
  | response
  | notice
  deriving DecidableEq, Repr

/-- A report in the queue (R177). The payload is complete, TIME_UNSET included. -/
structure Report where
  kind : ReportKind
  seq : Word
  pts : Tick
  payload : List Word
  deriving DecidableEq, Repr

/-- The transmission on RPT: none, the head of the queue, or a report that RESTART FULL removed from the queue while it was
going out (R183, R187). -/
inductive RptLink where
  | quiet
  | head
  | detached (report : Report)
  deriving DecidableEq, Repr

/-- The report generator (R176..R187). -/
structure Reports where
  queue : List Report
  seq : Word
  /-- Bit k enables class k, 0..7 (R184). -/
  mask : BitVec 8
  suppressed : Word
  /-- A response reservation is held (R179). -/
  reserved : Bool
  link : RptLink
  /-- The RPT_HOLD pin. -/
  hold : Bool
  deriving DecidableEq, Repr

/-! ## The whole part -/

/-- What the spec leaves to the surroundings: the orders in which blocks that work independently serve each other (R66, R136, R143,
R146, R165, R176). Each list is used up from its head; beyond it everything is served at once. -/
structure Surroundings where
  /-- When the owners of the next entries to leave the SDL answer, in the order they leave it (log entry 22). -/
  answers : List Moment
  /-- When the next control blocks finish, once their last entries are made (log entry 26). -/
  finishes : List Moment
  /-- The lanes that serve a RESTART in each of its steps (log entry 27). -/
  restarts : List (List LaneId)
  /-- How many owners answer in each step of a UNIT_READ, PORT_READ or PORT_ZERO (log entry 9). -/
  asks : List Nat
  deriving DecidableEq, Repr

/-- The state of the part. -/
structure State where
  ports : PerPort Port
  classifier : Classifier
  store : Store
  lanes : Vector Lane 16
  time : TimeBase
  scheduler : Scheduler
  control : Control
  reports : Reports
  /-- Control blocks offered and not yet served, oldest first (log entry 4). -/
  offers : List Offer
  /-- Notices requested and not yet served, oldest first (log entry 3). -/
  requests : List Notice
  /-- Orders the spec leaves open; the model's own field (log entries 9, 22, 26, 27). -/
  surroundings : Surroundings
  /-- Commands waiting to be taken, first in first out (log entry 1). -/
  pending : List Instr
  deriving DecidableEq, Repr

/-- The spec names no event that stops the part: there is no fault. -/
inductive Fault where
  deriving DecidableEq, Repr

/-- Why a command has no meaning. Safe: the machine stops where the part goes on. -/
inductive Refusal where
  /-- Raised by `exec` for a row with no meaning yet; no row is left so. -/
  | notModelled (mnemonic : String)
  deriving DecidableEq, Repr

/-! ## Reset values -/

/-- All port counters at 0 (R14). -/
def zeroPortCounters : PortCounters := ⟨0, 0, 0, 0, 0, 0, 0, 0⟩

/-- A port right after hard reset (R21). -/
def resetPort : Port := ⟨false, false, [], zeroPortCounters, false⟩

/-- All flow counters at 0 (R39). -/
def zeroFlowCounters : FlowCounters := ⟨0, 0, 0, 0, 0, 0, 0, 0⟩

/-- The classifier right after hard reset, and after RESTART FULL (R46). -/
def resetClassifier : Classifier :=
  { table := [], unknown := ⟨0, 0⟩, lastServed := .b, sweepNumber := 0, sweepTimer := 0, sweepsDue := 0 }

/-- The store after every reset (R62). -/
def emptyStore : Store := { records := [], freeCells := 1024, freeRecords := 512, fullFlag := false }

/-- The default configuration (R75). -/
def defaultConfig : LaneConfig :=
  { source := 0, cn := 32768, cd := 1, delay := 0, offset := 0, quota := 64, divisor := 2, fillWord := 0, fillLength := 0 }

/-- All lane counters at 0 (R93). -/
def zeroLaneCounters : LaneCounters := ⟨0, 0, 0, 0, 0, 0, 0, 0, 0, 0, 0⟩

/-- A lane right after hard reset (R97). -/
def resetLane : Lane :=
  { config := defaultConfig, state := .idle, queue := [], held := none, commands := [], last := .none, stopMode := none,
    nextSlot := 0, remainder := 0, datum := 0, counters := zeroLaneCounters, underrun := false, refused := false,
    overrun := false, frame := none }

/-- The time base right after hard reset, and after RESTART FULL (R73). -/
def resetTime : TimeBase := { tb := 0, isSet := false }

/-- The directive scheduler right after hard reset, and after RESTART FULL (R175). -/
def resetScheduler : Scheduler := { list := [], nextSerial := 0, overdue := 0, service := none }

/-- All control counters at 0 (R138). -/
def zeroControlCounters : ControlCounters := ⟨0, 0, 0, 0, 0⟩

/-- The control unit right after hard reset with the unit address sampled (R139). -/
def resetControl (straps : BitVec 6) : Control :=
  { unitAddr := straps, group := none, intake := [], execution := none, restart := none, inquiry := none,
    cache := [], counters := zeroControlCounters, overrunFlag := false, lastAnswer := none }

/-- The machine right after hard reset: every block at its reset values, UNIT_RESTARTED with cause HARD admitted with
sequence 0, TIME_UNSET set and a PTS of 0, and going out on RPT (R186, R187). DESIGN CHOICE: the straps read 0 and RPT_HOLD is
negated (log entry 8), and the PTS is 0 (log entry 25). -/
def State.reset : State :=
  { ports := ⟨resetPort, resetPort⟩
    classifier := resetClassifier
    store := emptyStore
    lanes := Vector.replicate 16 resetLane
    time := resetTime
    scheduler := resetScheduler
    control := resetControl 0
    reports :=
      { queue := [{ kind := .notice, seq := 0, pts := 0, payload := [0x8800, 0x0801, 0, 1, 1] }]
        seq := 1, mask := 0xFF, suppressed := 0, reserved := false, link := .head, hold := false }
    offers := []
    requests := []
    surroundings := { answers := [], finishes := [], restarts := [], asks := [] }
    pending := [] }

end Sys2Proof.Machine
end

