-- ==== Sys2Proof/Machine/Arith.lean ====
section
/-! DEFINITION. Words, tick counts and counters: halves of a 32-bit value (R1), saturating counters, the wrap-aware order,
distance and horizon (R64), cells of a payload (R47), codes of ports and states. -/

namespace Sys2Proof.Machine

/-- High word of a 32-bit value (R1). -/
def highWord (t : BitVec 32) : Word := t.extractLsb' 16 16

/-- Low word of a 32-bit value (R1). -/
def lowWord (t : BitVec 32) : Word := t.extractLsb' 0 16

/-- The 32-bit value of two words, high word first (R1). -/
def joinWords (high low : Word) : BitVec 32 := high ++ low

/-- A 32-bit value as two words, high word first (R1). -/
def twoWords (t : BitVec 32) : List Word := [highWord t, lowWord t]

/-- A Nat as a word. -/
def word (n : Nat) : Word := BitVec.ofNat 16 n

/-- An event counter increased by n, saturating at 2^32 − 1 (00_scope.md, "Counters"). -/
def satAdd (c : Count) (n : Nat) : Count := BitVec.ofNat 32 (min (c.toNat + n) (2 ^ 32 - 1))

/-- An event counter increased by 1. -/
def bump (c : Count) : Count := satAdd c 1

/-- The distance from a to b, (b − a) mod 2^32 (R64). -/
def distance (a b : Tick) : Nat := (b - a).toNat

/-- a is at or before b (R64). -/
def atOrBefore (a b : Tick) : Bool := decide (distance a b < 2 ^ 31)

/-- a is strictly after b (R64). -/
def strictlyAfter (a b : Tick) : Bool := decide (1 ≤ distance b a ∧ distance b a < 2 ^ 31)

/-- a lies within the horizon of b (R64). -/
def withinHorizon (a b : Tick) : Bool := strictlyAfter a b && decide (distance b a ≤ Config.horizon)

/-- Cells of a payload of n words: ceil(n/32) (R47). -/
def cellsFor (n : Nat) : Nat := (n + 31) / 32

/-- 0 for A, 1 for B (R7). -/
def portCode : PortId → Nat
  | .a => 0
  | .b => 1

/-- Lane state codes (R8). -/
def laneStateCode : LaneState → Nat
  | .idle => 0
  | .running => 1
  | .held => 2
  | .stepping => 3
  | .seeking => 4
  | .cueing => 5
  | .draining => 6
  | .parked => 7

/-- Status codes (R134). -/
def statusCode : Status → BitVec 8
  | .ok => 0
  | .queued => 1
  | .scheduled => 2
  | .notRun => 3
  | .unknown => 4
  | .badParam => 5
  | .badLane => 6
  | .noEntry => 7
  | .tableFull => 8
  | .laneBusy => 9
  | .notActive => 10
  | .order => 11
  | .cmdFull => 12
  | .noTime => 13
  | .past => 14
  | .tooFar => 15
  | .sdlFull => 16
  | .notSchedulable => 17
  | .lanesActive => 18
  | .noRoom => 19
  | .active => 20

/-- OK, QUEUED and SCHEDULED are successes, every other code is a failure (R130, R134). -/
def succeeded : Status → Bool
  | .ok => true
  | .queued => true
  | .scheduled => true
  | _ => false

/-- Directive codes (R5). -/
def directiveCode : Directive → BitVec 8
  | .echo => 0x01
  | .unitRead => 0x02
  | .groupSet => 0x03
  | .noticeMask => 0x04
  | .restart => 0x05
  | .portRead => 0x06
  | .portZero => 0x07
  | .flowSet => 0x10
  | .flowClear => 0x11
  | .flowRead => 0x12
  | .flowList => 0x13
  | .flowZero => 0x14
  | .laneSet => 0x20
  | .laneSource => 0x21
  | .laneRead => 0x22
  | .lanePeek => 0x23
  | .laneZero => 0x24
  | .start => 0x30
  | .halt => 0x31
  | .run => 0x32
  | .hold => 0x33
  | .step => 0x34
  | .seek => 0x35
  | .cue => 0x36
  | .stop => 0x37
  | .timeSet => 0x40
  | .timeAdjust => 0x41
  | .timeRead => 0x42
  | .schedAt => 0x50
  | .sdlCancel => 0x51
  | .sdlRead => 0x52

/-- The directive a code names, none for a code outside the table (R5). -/
def directiveOf (code : BitVec 8) : Option Directive :=
  match code.toNat with
  | 0x01 => some .echo
  | 0x02 => some .unitRead
  | 0x03 => some .groupSet
  | 0x04 => some .noticeMask
  | 0x05 => some .restart
  | 0x06 => some .portRead
  | 0x07 => some .portZero
  | 0x10 => some .flowSet
  | 0x11 => some .flowClear
  | 0x12 => some .flowRead
  | 0x13 => some .flowList
  | 0x14 => some .flowZero
  | 0x20 => some .laneSet
  | 0x21 => some .laneSource
  | 0x22 => some .laneRead
  | 0x23 => some .lanePeek
  | 0x24 => some .laneZero
  | 0x30 => some .start
  | 0x31 => some .halt
  | 0x32 => some .run
  | 0x33 => some .hold
  | 0x34 => some .step
  | 0x35 => some .seek
  | 0x36 => some .cue
  | 0x37 => some .stop
  | 0x40 => some .timeSet
  | 0x41 => some .timeAdjust
  | 0x42 => some .timeRead
  | 0x50 => some .schedAt
  | 0x51 => some .sdlCancel
  | 0x52 => some .sdlRead
  | _ => none

/-- The twelve schedulable directives (R164). -/
def schedulable : Directive → Bool
  | .start => true
  | .halt => true
  | .run => true
  | .hold => true
  | .step => true
  | .seek => true
  | .cue => true
  | .stop => true
  | .laneSource => true
  | .timeAdjust => true
  | .flowSet => true
  | .flowClear => true
  | _ => false

end Sys2Proof.Machine
end

