-- ==== Sys2Proof/Machine/Formats.lean ====
section
/-! DEFINITION. The word layouts of 01_block_and_frame_formats.md: the CRC (R3), the checks of a completed block (R13), the
envelope walk (R4), response and notice payloads (R6, R7), report blocks (R2, R182) and lane slot frames (R8). -/

namespace Sys2Proof.Machine

/-! ## The CRC (R3) -/

/-- One bit fed to the check register (R3). -/
def crcBit (reg : Word) (bit : Bool) : Word :=
  if reg.msb = bit then reg <<< 1 else (reg <<< 1) ^^^ 0x1021

/-- One word fed, from bit 15 down to bit 0 (R3). -/
def crcWord (reg : Word) (w : Word) : Word :=
  (List.range 16).foldl (fun r k => crcBit r (w.getLsbD (15 - k))) reg

/-- The CRC over a list of words (R3). -/
def crc (ws : List Word) : Word := ws.foldl crcWord 0xFFFF

/-! ## Received blocks (R2, R13) -/

/-- Word k of a block. -/
def wordAt (ws : List Word) (k : Nat) : Word := ws.getD k 0

/-- KIND, bits 15:12 of W0 (R2). -/
def kindOf (ws : List Word) : Nat := ((wordAt ws 0).extractLsb' 12 4).toNat

/-- LEN, the value of W5 (R2). -/
def lenOf (ws : List Word) : Nat := (wordAt ws 5).toNat

/-- The payload of a block that passed the length check (R2). -/
def payloadOf (ws : List Word) : List Word := (ws.drop 6).take (lenOf ws)

/-- Check 1 of R13. -/
def lengthGood (ws : List Word) : Bool :=
  decide (6 ≤ ws.length ∧ lenOf ws ≤ Config.maxPayload ∧ ws.length = 7 + lenOf ws)

/-- Check 2 of R13. -/
def crcGood (ws : List Word) : Bool := decide (crc (ws.take (6 + lenOf ws)) = wordAt ws (6 + lenOf ws))

/-- Check 3 of R13 for a media block: KIND 1 and FLOW in 0x0001..0xFFFE. -/
def mediaGood (ws : List Word) : Bool :=
  decide (kindOf ws = 1 ∧ wordAt ws 1 ≠ 0 ∧ wordAt ws 1 ≠ 0xFFFF)

/-- Check 3 of R13 for a control block: KIND 2 and FLOW 0. -/
def controlGood (ws : List Word) : Bool := decide (kindOf ws = 2 ∧ wordAt ws 1 = 0)

/-- The media block of a list of words (R2, R16). -/
def mediaOf (ws : List Word) : Media :=
  { flow := wordAt ws 1
    seq := wordAt ws 2
    pts := joinWords (wordAt ws 3) (wordAt ws 4)
    marker := (wordAt ws 0).getLsbD 1
    disc := (wordAt ws 0).getLsbD 0
    payload := payloadOf ws }

/-- A media block's words with its CRC, reserved fields zero (R2): what a source sends. -/
def mediaWords (m : Media) : List Word :=
  let body :=
    [0x1000 ||| (if m.marker then 2 else 0) ||| (if m.disc then 1 else 0), m.flow, m.seq, highWord m.pts, lowWord m.pts,
      word m.payload.length] ++ m.payload
  body ++ [crc body]

/-- A control block's words with its CRC, reserved and ignored fields zero (R2): what the control host sends. -/
def controlWords (seq : Word) (payload : List Word) : List Word :=
  let body := [0x2000, 0, seq, 0, 0, word payload.length] ++ payload
  body ++ [crc body]

/-! ## Control payload (R4) -/

/-- REPLY_WANTED (R4). -/
def replyWanted (payload : List Word) : Bool := (wordAt payload 0).getLsbD 15

/-- CONTINUE (R4). -/
def continueSet (payload : List Word) : Bool := (wordAt payload 0).getLsbD 14

/-- ADDRESS (R4). -/
def addressOf (payload : List Word) : BitVec 8 := (wordAt payload 0).extractLsb' 0 8

/-- The code of an envelope word (R4). -/
def envelopeCode (w : Word) : BitVec 8 := w.extractLsb' 8 8

/-- The parameter count of an envelope word (R4). -/
def envelopeCount (w : Word) : Nat := (w.extractLsb' 0 8).toNat

/-- The walk of R4: `count` envelopes, each with K in 0..64, ending exactly on the last word. -/
def walkEnvelopes : Nat → List Word → Option (List Envelope)
  | 0, [] => some []
  | 0, _ :: _ => none
  | _ + 1, [] => none
  | count + 1, w :: ws =>
    if envelopeCount w ≤ Config.maxParams ∧ envelopeCount w ≤ ws.length then
      match walkEnvelopes count (ws.drop (envelopeCount w)) with
      | some es => some ({ code := envelopeCode w, params := ws.take (envelopeCount w) } :: es)
      | none => none
    else none

/-- The envelopes of a control payload, none when it is malformed (R4, R128). -/
def envelopesOf (payload : List Word) : Option (List Envelope) :=
  let count := (wordAt payload 2).toNat
  if 1 ≤ count ∧ count ≤ Config.maxDirectives then walkEnvelopes count (payload.drop 3) else none

/-- The words of an envelope (R4). -/
def envelopeWords (e : Envelope) : List Word :=
  (e.code ++ BitVec.ofNat 8 e.params.length : BitVec 16) :: e.params

/-! ## Responses (R6) -/

/-- Block status codes (R6). -/
def blockStatusCode : BlockStatus → BitVec 4
  | .complete => 0
  | .stopped => 1
  | .malformed => 2

/-- A directive entry's words (R6). -/
def entryWords (e : ResultEntry) : List Word :=
  [(e.code ++ statusCode e.status : BitVec 16), word e.results.length] ++ e.results

/-- The response payload as the control unit builds it, TIME_UNSET and RESENT clear (R6, R132). -/
def responsePayload (unit : BitVec 6) (b : IntakeEntry) (status : BlockStatus) (entries : List ResultEntry) : List Word :=
  [(0#4 ++ blockStatusCode status ++ unit.setWidth 8 : BitVec 16), b.origin, b.seq,
    word (portCode b.port * 256 + entries.length)] ++ entries.flatMap entryWords

/-- A payload with bits of its P0 set. -/
def orFirst (bits : Word) : List Word → List Word
  | [] => []
  | p0 :: rest => (p0 ||| bits) :: rest

/-- RESENT set in a response payload (R6, R133). -/
def markResent (payload : List Word) : List Word := orFirst 0x4000 payload

/-- TIME_UNSET written into P0 of a payload (R6, R7, R182). -/
def stampUnset (isSet : Bool) (payload : List Word) : List Word :=
  if isSet then payload else orFirst 0x8000 payload

/-! ## Notices (R7, R185) -/

/-- Class codes of notices (R7, R185). -/
def noticeClass : Notice → Nat
  | .portUp _ => 0
  | .portDown _ => 0
  | .portErrors _ => 0
  | .flowSilent _ => 1
  | .flowResumed _ => 1
  | .flowGap _ _ => 1
  | .flowResync _ _ => 1
  | .pathDown _ _ => 2
  | .pathUp _ _ => 2
  | .storeFull _ _ => 3
  | .storeRecovered _ _ => 3
  | .laneState _ _ _ => 4
  | .laneUnderrun _ => 4
  | .laneRefused _ _ => 4
  | .laneOverrun _ => 4
  | .schedDone _ _ _ _ => 5
  | .schedFlushed _ => 5
  | .controlOverrun => 6
  | .timeChanged _ _ _ => 7
  | .unitRestarted _ => 8

/-- Notice codes (R185). -/
def noticeCode : Notice → Word
  | .portUp _ => 0x0001
  | .portDown _ => 0x0002
  | .portErrors _ => 0x0003
  | .flowSilent _ => 0x0101
  | .flowResumed _ => 0x0102
  | .flowGap _ _ => 0x0103
  | .flowResync _ _ => 0x0104
  | .pathDown _ _ => 0x0201
  | .pathUp _ _ => 0x0202
  | .storeFull _ _ => 0x0301
  | .storeRecovered _ _ => 0x0302
  | .laneState _ _ _ => 0x0401
  | .laneUnderrun _ => 0x0402
  | .laneRefused _ _ => 0x0403
  | .laneOverrun _ => 0x0404
  | .schedDone _ _ _ _ => 0x0501
  | .schedFlushed _ => 0x0502
  | .controlOverrun => 0x0601
  | .timeChanged _ _ _ => 0x0701
  | .unitRestarted _ => 0x0801

/-- Cause codes of FLOW_RESYNC (R185). -/
def resyncCode : ResyncCause → Word
  | .disc => 1
  | .staleRun => 2

/-- Kind codes of LANE_REFUSED (R60). -/
def refusalCode : RefusalKind → Word
  | .queue => 1
  | .quota => 2
  | .store => 3

/-- Selector codes of TIME_CHANGED (R71). -/
def selectorCode : TimeSelector → Word
  | .set => 1
  | .adjust => 2

/-- Cause codes of UNIT_RESTARTED (R186). -/
def restartCode : RestartCause → Word
  | .hard => 1
  | .lanes => 2
  | .full => 3

/-- A notice's argument words (R7, R185). -/
def noticeArgs : Notice → List Word
  | .portUp p => [word (portCode p)]
  | .portDown p => [word (portCode p)]
  | .portErrors p => [word (portCode p)]
  | .flowSilent f => [f]
  | .flowResumed f => [f]
  | .flowGap f n => [f, n]
  | .flowResync f c => [f, resyncCode c]
  | .pathDown f p => [f, word (portCode p)]
  | .pathUp f p => [f, word (portCode p)]
  | .storeFull c r => [c, r]
  | .storeRecovered c r => [c, r]
  | .laneState l old new => [word l.val, word (laneStateCode old), word (laneStateCode new)]
  | .laneUnderrun l => [word l.val]
  | .laneRefused l k => [word l.val, refusalCode k]
  | .laneOverrun l => [word l.val]
  | .schedDone n d st late => [n, (directiveCode d).setWidth 16, (statusCode st).setWidth 16, if late then 1 else 0]
  | .schedFlushed n => [n]
  | .controlOverrun => []
  | .timeChanged old new sel => twoWords old ++ twoWords new ++ [selectorCode sel]
  | .unitRestarted c => [restartCode c]

/-- A notice payload, TIME_UNSET clear (R7, R182). -/
def noticePayload (unit : BitVec 6) (suppressed : Word) (n : Notice) : List Word :=
  [(0#4 ++ BitVec.ofNat 4 (noticeClass n) ++ unit.setWidth 8 : BitVec 16), noticeCode n, suppressed,
    word (noticeArgs n).length] ++ noticeArgs n

/-! ## Report blocks (R2, R182) -/

/-- KIND codes of reports (R2). -/
def reportKindCode : ReportKind → Word
  | .response => 3
  | .notice => 4

/-- The words of a report block as sent on RPT, CRC last (R2, R182). -/
def reportWords (r : Report) : List Word :=
  let body :=
    [reportKindCode r.kind <<< 12, 0, r.seq, highWord r.pts, lowWord r.pts, word r.payload.length] ++ r.payload
  body ++ [crc body]

/-! ## Lane slot frames (R8, R88) -/

/-- Frame kind codes (R8). -/
def frameKindCode : FrameKind → Nat
  | .unitFrame => 1
  | .repeatFrame => 2
  | .fillFrame => 3

/-- The eight header words of a frame (R8). -/
def frameHeader (f : Frame) : List Word :=
  [word (frameKindCode f.kind * 4096 + laneStateCode f.lstate * 16 + f.marker.toNat * 2 + f.disc.toNat),
    f.flow, f.seq, highWord f.slot, lowWord f.slot, highWord f.upts, lowWord f.upts, word f.length]

/-- The words of a frame, given the payload of the block it holds (R8, R88). -/
def frameWords (f : Frame) (blockPayload : List Word) : List Word :=
  frameHeader f ++
    (match f.block with
      | some _ => blockPayload
      | none => List.replicate f.length f.fillWord)

/-- Ticks of a frame's transmission: (8 + FLEN) × W (R88). -/
def frameTicks (f : Frame) : Nat := (8 + f.length) * f.divisor.toNat

/-- The index of the word that leaves the output at the present tick: word k leaves k × W ticks after the slot event (R88). -/
def frameWordNow (f : Frame) : Option Nat :=
  if f.elapsed < frameTicks f ∧ f.elapsed % f.divisor.toNat = 0 then some (f.elapsed / f.divisor.toNat) else none

end Sys2Proof.Machine
end

