-- ==== Sys2Proof/WellFormed.lean ====
section
/-! DEFINITION. Which commands the environment of the part can make: a directive's parameters fit its envelope (R4), the rows that
split one directive code hold their own parameters (log entry 15), a received block fits the link, a slot's words fit the
payload (R2), and a notice is one its block can raise (R185). The meanings are total and do not need these checks. -/

namespace Sys2Proof

open Machine

/-- R4: an envelope carries at most 64 parameter words. -/
def paramsFit (ps : List Word) : Bool := decide (ps.length ≤ Config.maxParams)

/-- R2: a control payload has at most 256 words. -/
def payloadFits (payload : List Word) : Bool := decide (payload.length ≤ Config.maxPayload)

/-- A flow identifier a table entry can have (R25). -/
def flowInTable (f : Word) : Bool := decide (f ≠ 0 ∧ f ≠ 0xFFFF)

/-- R185: the argument ranges of a notice: a flow of the table, a missing count 1..32,766, free figures within the store, a
change of state, a serial below 0xFFFF, at most 32 flushed entries. -/
def noticeWellFormed : Notice → Bool
  | .portUp _ => true
  | .portDown _ => true
  | .portErrors _ => true
  | .flowSilent f => flowInTable f
  | .flowResumed f => flowInTable f
  | .flowGap f n => flowInTable f && decide (1 ≤ n.toNat ∧ n.toNat ≤ 32766)
  | .flowResync f _ => flowInTable f
  | .pathDown f _ => flowInTable f
  | .pathUp f _ => flowInTable f
  | .storeFull c r => decide (c.toNat ≤ Config.storeCells ∧ r.toNat ≤ Config.storeRecords)
  | .storeRecovered c r =>
    decide (Config.recoveryCells ≤ c.toNat ∧ c.toNat ≤ Config.storeCells ∧ Config.recoveryRecords ≤ r.toNat ∧
      r.toNat ≤ Config.storeRecords)
  | .laneState _ old new => decide (old ≠ new)
  | .laneUnderrun _ => true
  | .laneRefused _ _ => true
  | .laneOverrun _ => true
  | .schedDone n d _ _ => decide (n.toNat ≤ Config.lastSerial) && schedulable d
  | .schedFlushed n => decide (n.toNat ≤ Config.sdlEntries)
  | .controlOverrun => true
  | .timeChanged _ _ _ => true
  | .unitRestarted _ => true

/-- The commands the environment can make. -/
def WellFormed (i : Instr) : Bool :=
  match i with
  | .hardReset _ => true
  | .linkGain _ => true
  | .linkLoss _ => true
  | .blockStart _ => true
  | .blockComplete _ _ => true
  | .framingFault _ => true
  | .take => true
  | .watchSweep => true
  | .slotEvent _ => true
  | .frameCompletion _ => true
  | .controlBlockOffer _ _ payload => payloadFits payload
  | .executionStart => true
  | .unknownCode code ps => (directiveOf code).isNone && paramsFit ps
  | .echo ps => paramsFit ps
  | .unitRead ps => paramsFit ps
  | .groupSet ps => paramsFit ps
  | .noticeMask ps => paramsFit ps
  | .restartLanes ps => paramsFit ps && decide (ps ≠ [2])
  | .restartFull => true
  | .portRead ps => paramsFit ps
  | .portZero ps => paramsFit ps
  | .flowSet ps => paramsFit ps
  | .flowClear ps => paramsFit ps
  | .flowRead ps => paramsFit ps
  | .flowList ps => paramsFit ps
  | .flowZero ps => paramsFit ps
  | .laneSet ps => paramsFit ps
  | .laneSource ps => paramsFit ps
  | .laneRead ps => paramsFit ps
  | .lanePeek ps => paramsFit ps
  | .laneZero ps => paramsFit ps
  | .start ps => paramsFit ps
  | .halt ps => paramsFit ps
  | .run ps => paramsFit ps
  | .hold ps => paramsFit ps
  | .step ps => paramsFit ps
  | .seek ps => paramsFit ps
  | .cue ps => paramsFit ps
  | .stop ps => paramsFit ps
  | .timeSet ps => paramsFit ps
  | .timeAdjust ps => paramsFit ps
  | .timeRead ps => paramsFit ps
  | .schedAt ps => paramsFit ps
  | .sdlCancel ps => paramsFit ps && decide (ps ≠ [0xFFFF])
  | .sdlCancelAll => true
  | .sdlRead ps => paramsFit ps
  | .expiry => true
  | .overdueRequest => true
  | .noticeRequest n => noticeWellFormed n
  | .reportCompletion => true
  | .rptHoldChange _ => true
  | .tbTick => true

end Sys2Proof
end

