-- ==== Sys2Proof/Decode.lean ====
section
/-! DEFINITION. What words spell a command. No row of spec/opcode_table.json gives bits, so `decodeTableWord` answers none; the
part's own encoding of commands is the directive envelope of a control block (R4, R5): `commandOf` reads the command an envelope
spells, `envelopeOf` writes the envelope of a directive command. -/

namespace Sys2Proof

open Machine

/-- The command a table word spells: no row gives bits (log entry 18). -/
def decodeTableWord (_nbits _w : Nat) : Option Instr := none

/-- The command of a directive of the code table with its parameters (R5, log entry 15). -/
def directiveCommand (d : Directive) (ps : List Word) : Instr :=
  match d with
  | .echo => .echo ps
  | .unitRead => .unitRead ps
  | .groupSet => .groupSet ps
  | .noticeMask => .noticeMask ps
  | .restart => if ps = [2] then .restartFull else .restartLanes ps
  | .portRead => .portRead ps
  | .portZero => .portZero ps
  | .flowSet => .flowSet ps
  | .flowClear => .flowClear ps
  | .flowRead => .flowRead ps
  | .flowList => .flowList ps
  | .flowZero => .flowZero ps
  | .laneSet => .laneSet ps
  | .laneSource => .laneSource ps
  | .laneRead => .laneRead ps
  | .lanePeek => .lanePeek ps
  | .laneZero => .laneZero ps
  | .start => .start ps
  | .halt => .halt ps
  | .run => .run ps
  | .hold => .hold ps
  | .step => .step ps
  | .seek => .seek ps
  | .cue => .cue ps
  | .stop => .stop ps
  | .timeSet => .timeSet ps
  | .timeAdjust => .timeAdjust ps
  | .timeRead => .timeRead ps
  | .schedAt => .schedAt ps
  | .sdlCancel => if ps = [0xFFFF] then .sdlCancelAll else .sdlCancel ps
  | .sdlRead => .sdlRead ps

/-- The command an envelope spells (R4, R5). -/
def commandOf (e : Envelope) : Instr :=
  match directiveOf e.code with
  | some d => directiveCommand d e.params
  | none => .unknownCode e.code e.params

/-- An envelope of a directive of the code table. -/
def tableEnvelope (d : Directive) (ps : List Word) : Envelope := { code := directiveCode d, params := ps }

/-- The envelope that carries a directive command; none for an event of the part or of its pins. -/
def envelopeOf (i : Instr) : Option Envelope :=
  match i with
  | .hardReset _ => none
  | .linkGain _ => none
  | .linkLoss _ => none
  | .blockStart _ => none
  | .blockComplete _ _ => none
  | .framingFault _ => none
  | .take => none
  | .watchSweep => none
  | .slotEvent _ => none
  | .frameCompletion _ => none
  | .controlBlockOffer _ _ _ => none
  | .executionStart => none
  | .unknownCode code ps => some { code := code, params := ps }
  | .echo ps => some (tableEnvelope .echo ps)
  | .unitRead ps => some (tableEnvelope .unitRead ps)
  | .groupSet ps => some (tableEnvelope .groupSet ps)
  | .noticeMask ps => some (tableEnvelope .noticeMask ps)
  | .restartLanes ps => some (tableEnvelope .restart ps)
  | .restartFull => some (tableEnvelope .restart [2])
  | .portRead ps => some (tableEnvelope .portRead ps)
  | .portZero ps => some (tableEnvelope .portZero ps)
  | .flowSet ps => some (tableEnvelope .flowSet ps)
  | .flowClear ps => some (tableEnvelope .flowClear ps)
  | .flowRead ps => some (tableEnvelope .flowRead ps)
  | .flowList ps => some (tableEnvelope .flowList ps)
  | .flowZero ps => some (tableEnvelope .flowZero ps)
  | .laneSet ps => some (tableEnvelope .laneSet ps)
  | .laneSource ps => some (tableEnvelope .laneSource ps)
  | .laneRead ps => some (tableEnvelope .laneRead ps)
  | .lanePeek ps => some (tableEnvelope .lanePeek ps)
  | .laneZero ps => some (tableEnvelope .laneZero ps)
  | .start ps => some (tableEnvelope .start ps)
  | .halt ps => some (tableEnvelope .halt ps)
  | .run ps => some (tableEnvelope .run ps)
  | .hold ps => some (tableEnvelope .hold ps)
  | .step ps => some (tableEnvelope .step ps)
  | .seek ps => some (tableEnvelope .seek ps)
  | .cue ps => some (tableEnvelope .cue ps)
  | .stop ps => some (tableEnvelope .stop ps)
  | .timeSet ps => some (tableEnvelope .timeSet ps)
  | .timeAdjust ps => some (tableEnvelope .timeAdjust ps)
  | .timeRead ps => some (tableEnvelope .timeRead ps)
  | .schedAt ps => some (tableEnvelope .schedAt ps)
  | .sdlCancel ps => some (tableEnvelope .sdlCancel ps)
  | .sdlCancelAll => some (tableEnvelope .sdlCancel [0xFFFF])
  | .sdlRead ps => some (tableEnvelope .sdlRead ps)
  | .expiry => none
  | .overdueRequest => none
  | .noticeRequest _ => none
  | .reportCompletion => none
  | .rptHoldChange _ => none
  | .tbTick => none

/-- The words of a directive command: its envelope word and its parameters (R4). -/
def encodeDirective (i : Instr) : Option (List Word) := (envelopeOf i).map envelopeWords

/-- The directive command at the front of a list of words, with the words left (R4). -/
def decodeDirective (ws : List Word) : Option (Instr × List Word) :=
  match ws with
  | [] => none
  | w :: rest =>
    if envelopeCount w ≤ Config.maxParams ∧ envelopeCount w ≤ rest.length then
      some (commandOf { code := envelopeCode w, params := rest.take (envelopeCount w) }, rest.drop (envelopeCount w))
    else none

end Sys2Proof
end

