-- ==== Sys2Proof/Machine/Ops.lean ====
section
/-! DEFINITION. The shared operations: reads and updates of the parts of the state, requests to the report generator, the
block store's allocation, holder addition and release (R50..R53), and the report generator's admission and transmission
(R178..R183). -/

namespace Sys2Proof.Machine

/-! ## Parts of the state -/

/-- The value held for a port. -/
def perPort {α : Type} (x : PerPort α) : PortId → α
  | .a => x.a
  | .b => x.b

/-- The values with the one for port p replaced. -/
def setPerPort {α : Type} (x : PerPort α) (p : PortId) (v : α) : PerPort α :=
  match p with
  | .a => { x with a := v }
  | .b => { x with b := v }

/-- The other port. -/
def otherPort : PortId → PortId
  | .a => .b
  | .b => .a

/-- The state of a port. -/
def portOf (s : State) (p : PortId) : Port := perPort s.ports p

/-- The state with a port replaced. -/
def setPort (p : PortId) (x : Port) (s : State) : State := { s with ports := setPerPort s.ports p x }

/-- The state with the classifier replaced. -/
def setClassifier (x : Classifier) (s : State) : State := { s with classifier := x }

/-- The state with the flow table replaced. -/
def setTable (t : List FlowEntry) (s : State) : State := setClassifier { s.classifier with table := t } s

/-- The state with the store replaced. -/
def setStore (x : Store) (s : State) : State := { s with store := x }

/-- A lane scheduler. -/
def laneOf (s : State) (l : LaneId) : Lane := s.lanes[l]

/-- The state with a lane replaced. -/
def setLane (l : LaneId) (x : Lane) (s : State) : State := { s with lanes := s.lanes.set l x }

/-- The state with every lane replaced by a function of its number and itself. -/
def mapLanes (f : LaneId → Lane → Lane) (s : State) : State :=
  { s with lanes := Vector.ofFn fun l : LaneId => f l s.lanes[l] }

/-- The state with the time base replaced. -/
def setTime (x : TimeBase) (s : State) : State := { s with time := x }

/-- The state with the directive scheduler replaced. -/
def setScheduler (x : Scheduler) (s : State) : State := { s with scheduler := x }

/-- The state with the control unit replaced. -/
def setControl (x : Control) (s : State) : State := { s with control := x }

/-- The state with the report generator replaced. -/
def setReports (x : Reports) (s : State) : State := { s with reports := x }

/-- The state with the offered control blocks replaced. -/
def setOffers (x : List Offer) (s : State) : State := { s with offers := x }

/-- The state with the waiting notice requests replaced. -/
def setRequests (x : List Notice) (s : State) : State := { s with requests := x }

/-- The state with the surroundings' choices replaced. -/
def setSurroundings (x : Surroundings) (s : State) : State := { s with surroundings := x }

/-- A notice is requested of the report generator: it waits until a NOTICE_REQUEST serves it (R176, log entry 3). -/
def request (n : Notice) (s : State) : State := setRequests (s.requests ++ [n]) s

/-- Notices requested in order. -/
def requestAll (ns : List Notice) (s : State) : State := setRequests (s.requests ++ ns) s

/-! ## The block store -/

/-- The record a lane's reference names. -/
def recordOf (st : Store) (ref : Nat) : Option Record := st.records.find? fun r => r.ref == ref

/-- The payload of a stored block. -/
def blockPayload (st : Store) (ref : Nat) : List Word :=
  match recordOf st ref with
  | some r => r.payload
  | none => []

/-- The cells a record occupies (R47). -/
def recordCells (r : Record) : Nat := cellsFor r.payload.length

/-- The least number no record has, from k on, for records in ascending number (log entry 13). -/
def freshRef : Nat → List Record → Nat
  | k, [] => k
  | k, r :: rs => if r.ref = k then freshRef (k + 1) rs else k

/-- A record placed before the first one of greater number. -/
def insertRecord (x : Record) : List Record → List Record
  | [] => [x]
  | r :: rs => if x.ref < r.ref then x :: r :: rs else r :: insertRecord x rs

/-- R50: there is a free record and there are enough free cells for n words. -/
def storeHasRoom (st : Store) (n : Nat) : Bool := decide (1 ≤ st.freeRecords ∧ cellsFor n ≤ st.freeCells)

/-- The number of the next stored block. -/
def nextRef (st : Store) : Nat := freshRef 0 st.records

/-- A successful allocation with holder count k (R50). -/
def storeBlock (payload : List Word) (k : Nat) (st : Store) : Store :=
  { st with
    records := insertRecord { ref := nextRef st, payload := payload, holders := k } st.records
    freeCells := st.freeCells - cellsFor payload.length
    freeRecords := st.freeRecords - 1 }

/-- STORE_FULL and STORE_RECOVERED carry the free figures (R53). -/
def storeFullNotice (st : Store) : Notice := .storeFull (word st.freeCells) (word st.freeRecords)

/-- A failed allocation (R53): the flag is set, and STORE_FULL requested when it was clear. -/
def allocationFailed (s : State) : State :=
  if s.store.fullFlag then s
  else request (storeFullNotice s.store) (setStore { s.store with fullFlag := true } s)

/-- A change of the records' holders. -/
def mapHolders (ref : Nat) (f : Nat → Nat) (rs : List Record) : List Record :=
  rs.map fun r => if r.ref = ref then { r with holders := f r.holders } else r

/-- A holder added to a block (R51). -/
def addHolder (ref : Nat) (s : State) : State :=
  setStore { s.store with records := mapHolders ref (· + 1) s.store.records } s

/-- A record taken out of the store and its room returned (R52). -/
def dropRecord (r : Record) (st : Store) : Store :=
  { st with
    records := st.records.filter fun x => x.ref != r.ref
    freeCells := st.freeCells + recordCells r
    freeRecords := st.freeRecords + 1 }

/-- R53: the thresholds a free must meet to clear the store-full flag. -/
def recovered (st : Store) : Bool :=
  st.fullFlag && decide (Config.recoveryCells ≤ st.freeCells ∧ Config.recoveryRecords ≤ st.freeRecords)

/-- Recovery judged after a free (R53). -/
def judgeRecovery (s : State) : State :=
  if recovered s.store then
    request (.storeRecovered (word s.store.freeCells) (word s.store.freeRecords))
      (setStore { s.store with fullFlag := false } s)
  else s

/-- A release of one holder (R52, R53). A reference to no stored block, which no reachable state has, changes nothing
(log entry 17). -/
def release (ref : Nat) (s : State) : State :=
  match recordOf s.store ref with
  | none => s
  | some r =>
    if r.holders ≤ 1 then judgeRecovery (setStore (dropRecord r s.store) s)
    else setStore { s.store with records := mapHolders ref (· - 1) s.store.records } s

/-! ## Effects of a lane's event on other blocks -/

/-- What a lane does to other blocks, in order: a release to the store, a notice requested. -/
inductive Effect where
  | release (ref : Nat)
  | request (notice : Notice)
  deriving DecidableEq, Repr

/-- One effect carried out. -/
def applyEffect (s : State) : Effect → State
  | .release ref => release ref s
  | .request n => request n s

/-- Effects carried out in order. -/
def applyEffects (fx : List Effect) (s : State) : State := fx.foldl applyEffect s

/-- The releases of a list of entries, in order. -/
def releasesOf (es : List Entry) : List Effect := es.map fun e => .release e.block

/-- The charge of a lane: the cells of its queue entries and its held unit (R55). -/
def charge (x : Lane) : Nat := (x.queue.map (·.cells)).sum + (x.held.toList.map (·.cells)).sum

/-! ## The report generator -/

/-- R183: the head begins when the queue is not empty, no report is in transmission and RPT_HOLD is negated. -/
def beginTransmission (r : Reports) : Reports :=
  if r.link = .quiet ∧ r.hold = false ∧ r.queue ≠ [] then { r with link := .head } else r

/-- A report built and appended at the tail: sequence, time stamp and TIME_UNSET are written at its admission (R178, R182). -/
def pushReport (kind : ReportKind) (payload : List Word) (s : State) : State :=
  setReports
    (beginTransmission
      { s.reports with
        queue := s.reports.queue ++
          [{ kind := kind, seq := s.reports.seq, pts := s.time.tb, payload := stampUnset s.time.isSet payload }]
        seq := s.reports.seq + 1 })
    s

/-- R184: class c is enabled; class 8, UNIT, always is. -/
def classEnabled (mask : BitVec 8) (c : Nat) : Bool := c == 8 || mask.getLsbD c

/-- A notice admitted: it carries the suppressed count, which returns to 0 (R181). -/
def admitNotice (n : Notice) (s : State) : State :=
  pushReport .notice (noticePayload s.control.unitAddr s.reports.suppressed n)
    (setReports { s.reports with suppressed := 0 } s)

/-- A notice refused: the suppressed count increases by 1, saturating at 65,535 (R181). -/
def refuseNotice (s : State) : State :=
  setReports { s.reports with suppressed := word (min (s.reports.suppressed.toNat + 1) 65535) } s

/-- R180: the conditions of a notice's admission. -/
def noticeAdmissible (n : Notice) (s : State) : Bool :=
  classEnabled s.reports.mask (noticeClass n) && decide (s.reports.queue.length < Config.noticeLimit)

/-- A notice request served (R180). -/
def serveNotice (n : Notice) (s : State) : State :=
  if noticeAdmissible n s then admitNotice n s else refuseNotice s

/-- The occupancy a retry copy meets: the entries held plus the reservation (R179). -/
def occupancy (r : Reports) : Nat := r.queue.length + r.reserved.toNat

/-- The notice mask in class set form, bit 8 set (R7, R144). -/
def maskWord (mask : BitVec 8) : Word := 0x0100 ||| mask.setWidth 16

/-! ## Owners and their answers -/

/-- An owner's answer to a directive: the status, the result words and the state it leaves (R129). -/
structure Answer where
  status : Status
  results : List Word
  state : State

/-- A refusal: no result words and nothing changed (R140). -/
def refuse (st : Status) (s : State) : Answer := { status := st, results := [], state := s }

/-- OK without result words. -/
def done (s : State) : Answer := { status := .ok, results := [], state := s }

/-- The room stage of a read: OK with its words, or NO_ROOM (R141). -/
def readOut (room : Nat) (results : List Word) (s : State) : Answer :=
  if results.length ≤ room then { status := .ok, results := results, state := s } else refuse .noRoom s

/-- The form stage's answer or the owner's (R140). -/
def afterForm {α : Type} (form : Except Status α) (owner : α → Answer) (s : State) : Answer :=
  match form with
  | .error st => refuse st s
  | .ok x => owner x

end Sys2Proof.Machine
end

