-- ==== Sys2Proof/Machine/Operands.lean ====
section
/-! DEFINITION. The form stage of every directive (R140): the parameter count, then the lane, then the other ranges, in the
order of 09_directive_reference.md. A form either gives the typed operands or the status of the first failure. -/

namespace Sys2Proof.Machine

/-- A lane parameter: 0..15, else BAD_LANE (R140 check 3). -/
def laneParam (w : Word) : Except Status LaneId :=
  if h : w.toNat < 16 then .ok ⟨w.toNat, h⟩ else .error .badLane

/-- A port parameter: 0 for A, 1 for B, else BAD_PARAM (R146). -/
def portParam (w : Word) : Except Status PortId :=
  if w = 0 then .ok .a else if w = 1 then .ok .b else .error .badParam

/-- A flow identifier 0x0001..0xFFFE (R147). -/
def flowValid (w : Word) : Bool := decide (w ≠ 0 ∧ w ≠ 0xFFFF)

/-- A range check of a parameter: BAD_PARAM when it fails (R140 check 4). -/
def inRange {α : Type} (good : Bool) (x : α) : Except Status α := if good then .ok x else .error .badParam

/-- No parameters: UNIT_READ, TIME_READ. -/
def formNone : List Word → Except Status Unit
  | [] => .ok ()
  | _ => .error .badParam

/-- One parameter of any value. -/
def formOne : List Word → Except Status Word
  | [w] => .ok w
  | _ => .error .badParam

/-- GROUP_SET: 0 for none, or 64..254 (R144). -/
def formGroup : List Word → Except Status (Option (BitVec 8))
  | [w] =>
    if w = 0 then .ok none
    else inRange (decide (64 ≤ w.toNat ∧ w.toNat ≤ 254)) (some (w.extractLsb' 0 8))
  | _ => .error .badParam

/-- RESTART: 1 for LANES, 2 for FULL (R145). -/
def formRestart : List Word → Except Status RestartScope
  | [w] => if w = 1 then .ok .lanes else if w = 2 then .ok .full else .error .badParam
  | _ => .error .badParam

/-- PORT_READ and PORT_ZERO (R146). -/
def formPort : List Word → Except Status PortId
  | [w] => portParam w
  | _ => .error .badParam

/-- The port sets as carried: 1 A, 2 B, 3 BOTH (R147). -/
def portSetParam (w : Word) : Except Status PortSet :=
  if w = 1 then .ok .a else if w = 2 then .ok .b else if w = 3 then .ok .both else .error .badParam

/-- FLOW_SET's operands. -/
structure FlowSetArgs where
  flow : Word
  ports : PortSet
  lapse : BitVec 8
  deriving DecidableEq, Repr

/-- FLOW_SET: flow, port set, lapse limit (R147). -/
def formFlowSet : List Word → Except Status FlowSetArgs
  | [f, p, l] =>
    match portSetParam p with
    | .ok ps => inRange (flowValid f && decide (l.toNat ≤ 255)) { flow := f, ports := ps, lapse := l.extractLsb' 0 8 }
    | .error st => .error st
  | _ => .error .badParam

/-- FLOW_CLEAR, FLOW_ZERO and FLOW_READ: the flow (R148, R149). -/
def formFlow : List Word → Except Status Word
  | [f] => inRange (flowValid f) f
  | _ => .error .badParam

/-- FLOW_LIST: any start, maximum count 1..64 (R150). -/
def formFlowList : List Word → Except Status (Word × Nat)
  | [start, m] => inRange (decide (1 ≤ m.toNat ∧ m.toNat ≤ 64)) (start, m.toNat)
  | _ => .error .badParam

/-- The field ranges of R75 and the cadence check CN ≥ 64 × CD (R76 check 3, R151). -/
def configValid (c : LaneConfig) : Bool :=
  decide (c.source ≠ 0xFFFF ∧ 1 ≤ c.cn.toNat ∧ c.cn.toNat ≤ 16777215 ∧ 1 ≤ c.cd.toNat ∧
    64 * c.cd.toNat ≤ c.cn.toNat ∧ c.delay.toNat ≤ 16777215 ∧
    -536870912 ≤ c.offset.toInt ∧ c.offset.toInt ≤ 536870911 ∧ c.quota.toNat ≤ 1024 ∧
    2 ≤ c.divisor.toNat ∧ c.divisor.toNat ≤ 1023 ∧ c.fillLength.toNat ≤ 256)

/-- LANE_SET: 13 parameters in the order of R76. -/
def formLaneSet : List Word → Except Status (LaneId × LaneConfig)
  | [lane, source, cnh, cnl, cd, dh, dl, oh, ol, quota, w, fillWord, fillLength] =>
    match laneParam lane with
    | .ok l =>
      let c : LaneConfig :=
        { source := source, cn := joinWords cnh cnl, cd := cd, delay := joinWords dh dl, offset := joinWords oh ol,
          quota := quota, divisor := w, fillWord := fillWord, fillLength := fillLength }
      inRange (configValid c) (l, c)
    | .error st => .error st
  | _ => .error .badParam

/-- LANE_SOURCE's operands. -/
structure LaneSourceArgs where
  lane : LaneId
  flow : Word
  cut : Bool
  deriving DecidableEq, Repr

/-- LANE_SOURCE: lane, flow 0x0000..0xFFFE, cut 0 or 1 (R152). -/
def formLaneSource : List Word → Except Status LaneSourceArgs
  | [lane, f, c] =>
    match laneParam lane with
    | .ok l => inRange (decide (f ≠ 0xFFFF ∧ c.toNat ≤ 1)) { lane := l, flow := f, cut := decide (c = 1) }
    | .error st => .error st
  | _ => .error .badParam

/-- LANE_READ, LANE_ZERO, HALT, RUN, HOLD, STEP, SEEK, CUE: the lane (R153, R156, R157). -/
def formLane : List Word → Except Status LaneId
  | [lane] => laneParam lane
  | _ => .error .badParam

/-- LANE_PEEK's operands. -/
structure LanePeekArgs where
  lane : LaneId
  start : Nat
  count : Nat
  deriving DecidableEq, Repr

/-- LANE_PEEK: lane, start 0..63, maximum count 1..64 (R154). -/
def formLanePeek : List Word → Except Status LanePeekArgs
  | [lane, start, m] =>
    match laneParam lane with
    | .ok l =>
      inRange (decide (start.toNat ≤ 63 ∧ 1 ≤ m.toNat ∧ m.toNat ≤ 64)) { lane := l, start := start.toNat, count := m.toNat }
    | .error st => .error st
  | _ => .error .badParam

/-- START: lane and anchor (R155). -/
def formStart : List Word → Except Status (LaneId × Tick)
  | [lane, high, low] =>
    match laneParam lane with
    | .ok l => .ok (l, joinWords high low)
    | .error st => .error st
  | _ => .error .badParam

/-- STOP: lane, mode 0 FILL or 1 LAST (R157). -/
def formStop : List Word → Except Status (LaneId × StopMode)
  | [lane, mode] =>
    match laneParam lane with
    | .ok l => if mode = 0 then .ok (l, .fill) else if mode = 1 then .ok (l, .last) else .error .badParam
    | .error st => .error st
  | _ => .error .badParam

/-- TIME_SET: any value (R158). -/
def formTimeSet : List Word → Except Status Tick
  | [high, low] => .ok (joinWords high low)
  | _ => .error .badParam

/-- TIME_ADJUST: −16,777,216..16,777,215 (R159). -/
def formTimeAdjust : List Word → Except Status Tick
  | [high, low] =>
    let delta := joinWords high low
    inRange (decide (-16777216 ≤ delta.toInt ∧ delta.toInt ≤ 16777215)) delta
  | _ => .error .badParam

/-- AT's operands: the due time, the embedded envelope word and the embedded parameters. -/
structure AtArgs where
  due : Tick
  envelope : Word
  params : List Word
  deriving DecidableEq, Repr

/-- AT: K of 3 or more (R161). -/
def formAt : List Word → Except Status AtArgs
  | high :: low :: envelope :: params => .ok { due := joinWords high low, envelope := envelope, params := params }
  | _ => .error .badParam

/-- SDL_READ: start 0..31, maximum count 1..32 (R163). -/
def formSdlRead : List Word → Except Status (Nat × Nat)
  | [start, m] => inRange (decide (start.toNat ≤ 31 ∧ 1 ≤ m.toNat ∧ m.toNat ≤ 32)) (start.toNat, m.toNat)
  | _ => .error .badParam

/-- The failure a form gives, if any. -/
def formFailure {α : Type} : Except Status α → Option Status
  | .ok _ => none
  | .error st => some st

/-- The form stage of an embedded directive, made at the AT's admission (R161, R166 checks 5 to 7): none when it passes. A
directive that cannot be scheduled is refused before (R166 check 4). -/
def embeddedFailure (d : Directive) (ps : List Word) : Option Status :=
  match d with
  | .flowSet => formFailure (formFlowSet ps)
  | .flowClear => formFailure (formFlow ps)
  | .laneSource => formFailure (formLaneSource ps)
  | .start => formFailure (formStart ps)
  | .halt => formFailure (formLane ps)
  | .run => formFailure (formLane ps)
  | .hold => formFailure (formLane ps)
  | .step => formFailure (formLane ps)
  | .seek => formFailure (formLane ps)
  | .cue => formFailure (formLane ps)
  | .stop => formFailure (formStop ps)
  | .timeAdjust => formFailure (formTimeAdjust ps)
  | _ => some .notSchedulable

end Sys2Proof.Machine
end

