-- ==== Sys2Proof/Machine/Flags.lean ====
section
/-! DEFINITION. The sticky flags that govern notices (11_reports_and_notices.md, 11.6): the port error flag (R18), the lane
flags REFUSED, UNDERRUN and OVERRUN (R60, R87, R90) and CONTROL_OVERRUN (R126). The GAP flag stands with R30 in Classifier.lean,
the store-full flag with R53 in Ops.lean. -/

namespace Sys2Proof.Machine

/-- A port error (R18): PORT_ERRORS is requested and the flag set when it is clear. -/
def portError (p : PortId) (s : State) : State :=
  if (portOf s p).errorFlag then s
  else request (.portErrors p) (setPort p { portOf s p with errorFlag := true } s)

/-- A refusal for lack of room at a lane (R60): LANE_REFUSED is requested and the flag set when it is clear. -/
def refusedForRoom (l : LaneId) (k : RefusalKind) (s : State) : State :=
  if (laneOf s l).refused then s
  else request (.laneRefused l k) (setLane l { laneOf s l with refused := true } s)

/-- A REPEAT or FILL decided by a presentation that follows time (R87, R119). -/
def markUnderrun (l : LaneId) (x : Lane) : Lane × List Effect :=
  if x.underrun then (x, []) else ({ x with underrun := true }, [.request (.laneUnderrun l)])

/-- A slot that finds a frame in transmission (R90): counted, LANE_OVERRUN requested and the flag set when it is clear. -/
def overrunSlot (l : LaneId) (s : State) : State :=
  let x := laneOf s l
  let counted := { x with counters := { x.counters with overruns := bump x.counters.overruns } }
  if x.overrun then setLane l counted s
  else request (.laneOverrun l) (setLane l { counted with overrun := true } s)

/-- A block discarded for a full intake (R126): counted, CONTROL_OVERRUN requested and the flag set when it is clear. -/
def intakeOverrun (s : State) : State :=
  let c := s.control
  let counted := { c with counters := { c.counters with overrun := bump c.counters.overrun } }
  if c.overrunFlag then setControl counted s
  else request .controlOverrun (setControl { counted with overrunFlag := true } s)

end Sys2Proof.Machine
end

