-- ==== Sys2Proof/Machine/Placement.lean ====
section
/-! DEFINITION. Placement of an accepted block (04_the_block_store_and_placement.md, R56..R60): candidate lanes, the four
tests, the one allocation, and the queue entries. -/

namespace Sys2Proof.Machine

/-- The states in which a lane admits units (R56). -/
def admitsUnits : LaneState → Bool
  | .idle => false
  | .running => true
  | .held => true
  | .stepping => true
  | .seeking => true
  | .cueing => true
  | .draining => false
  | .parked => false

/-- A candidate lane for flow f (R56). -/
def isCandidate (f : Word) (x : Lane) : Bool := decide (x.config.source = f ∧ f ≠ 0) && admitsUnits x.state

/-- The release time of a unit on a lane, (PTS + O − D) mod 2^32 (R57, R77). -/
def releaseTime (c : LaneConfig) (pts : Tick) : Tick := pts + c.offset - c.delay

/-- The outcome of a lane's tests (R57). -/
inductive LaneTest where
  | late
  | early
  | queueFull
  | quota
  | pass
  deriving DecidableEq, Repr

/-- The four tests of R57, in order. -/
def testLane (x : Lane) (tb : Tick) (m : Media) : LaneTest :=
  let r := releaseTime x.config m.pts
  if strictlyAfter r x.datum = false then .late
  else if atOrBefore r tb = false ∧ Config.horizon < distance tb r then .early
  else if Config.queueEntries ≤ x.queue.length then .queueFull
  else if x.config.quota.toNat < charge x + cellsFor m.payload.length then .quota
  else .pass

/-- The counter a refusal increases (R57). -/
def countTest (t : LaneTest) (c : LaneCounters) : LaneCounters :=
  match t with
  | .late => { c with late := bump c.late }
  | .early => { c with early := bump c.early }
  | .queueFull => { c with refusedQueue := bump c.refusedQueue }
  | .quota => { c with refusedQuota := bump c.refusedQuota }
  | .pass => c

/-- A change of a lane's counters. -/
def countLane (l : LaneId) (f : LaneCounters → LaneCounters) (s : State) : State :=
  setLane l { laneOf s l with counters := f (laneOf s l).counters } s

/-- The effect of a lane's tests: the counter, and LANE_REFUSED for a refusal for lack of room (R57, R60). -/
def noteTest (l : LaneId) (t : LaneTest) (s : State) : State :=
  let s1 := countLane l (countTest t) s
  match t with
  | .queueFull => refusedForRoom l .queue s1
  | .quota => refusedForRoom l .quota s1
  | _ => s1

/-- One lane put through placement's tests, if it is a candidate. -/
def testCandidate (m : Media) (s : State) (l : LaneId) : State :=
  if isCandidate m.flow (laneOf s l) then noteTest l (testLane (laneOf s l) s.time.tb m) s else s

/-- The lanes that pass, in ascending number. The tests of one lane do not depend on another's outcome (R57 note 4). -/
def passingLanes (m : Media) (s : State) : List LaneId :=
  (List.finRange 16).filter fun l =>
    isCandidate m.flow (laneOf s l) && decide (testLane (laneOf s l) s.time.tb m = .pass)

/-- The queue entry of a block on a lane (R59). -/
def entryFor (c : LaneConfig) (m : Media) (p : PortId) (ref : Nat) : Entry :=
  { block := ref, flow := m.flow, seq := m.seq, pts := m.pts, release := releaseTime c m.pts, marker := m.marker,
    disc := m.disc, port := p, cells := cellsFor m.payload.length }

/-- Insertion after every entry whose distance from the datum is at most the new one's (R79). -/
def insertEntry (datum : Tick) (e : Entry) : List Entry → List Entry
  | [] => [e]
  | x :: xs =>
    if distance datum x.release ≤ distance datum e.release then x :: insertEntry datum e xs else e :: x :: xs

/-- A passing lane inserts its entry (R59). -/
def insertAt (m : Media) (p : PortId) (ref : Nat) (s : State) (l : LaneId) : State :=
  let x := laneOf s l
  setLane l { x with queue := insertEntry x.datum (entryFor x.config m p ref) x.queue } s

/-- A passing lane loses the block to a store failure (R59, R60). -/
def loseToStore (s : State) (l : LaneId) : State :=
  refusedForRoom l .store (countLane l (fun c => { c with refusedStore := bump c.refusedStore }) s)

/-- The allocation for the passing lanes and its outcome (R59). -/
def allocateFor (m : Media) (p : PortId) (passing : List LaneId) (s : State) : State :=
  if storeHasRoom s.store m.payload.length then
    passing.foldl (insertAt m p (nextRef s.store)) (setStore (storeBlock m.payload passing.length s.store) s)
  else passing.foldl loseToStore (allocationFailed s)

/-- An entry's unplaced counter increased (R58). -/
def countUnplaced (f : Word) (s : State) : State :=
  setTable
    (s.classifier.table.map fun e =>
      if e.flow = f then { e with counters := { e.counters with unplaced := bump e.counters.unplaced } } else e)
    s

/-- Placement of an accepted block (R56..R60). -/
def place (m : Media) (p : PortId) (s : State) : State :=
  let tested := (List.finRange 16).foldl (testCandidate m) s
  match passingLanes m s with
  | [] => countUnplaced m.flow tested
  | ls => allocateFor m p ls tested

end Sys2Proof.Machine
end

