-- ==== Sys2Proof/Machine/Classifier.lean ====
section
/-! DEFINITION. The flow classifier (03_the_flow_table.md): the arbiter and the take, classification, the watch sweep and the
flow directives. -/

namespace Sys2Proof.Machine

/-! ## The flow table -/

/-- The entry of a flow identifier. -/
def findFlow (f : Word) (t : List FlowEntry) : Option FlowEntry := t.find? fun e => e.flow == f

/-- An entry replaced. -/
def replaceFlow (x : FlowEntry) (t : List FlowEntry) : List FlowEntry :=
  t.map fun e => if e.flow = x.flow then x else e

/-- A new entry put in its place in ascending identifier (R36, R44). -/
def insertFlow (x : FlowEntry) : List FlowEntry → List FlowEntry
  | [] => [x]
  | e :: es => if x.flow.toNat < e.flow.toNat then x :: e :: es else e :: insertFlow x es

/-- A port is in a port set. -/
def inSet (ports : PortSet) (p : PortId) : Bool :=
  match ports, p with
  | .a, .a => true
  | .b, .b => true
  | .both, _ => true
  | _, _ => false

/-- A new path record: DOWN with silence count 0 (R26). -/
def newPath : Path := { up := false, silence := 0 }

/-! ## Classification (R27..R34) -/

/-- The outcomes of a classification (R27). -/
inductive Classified where
  | accepted
  | duplicate
  | stale
  deriving DecidableEq, Repr

/-- What a classification makes of an entry: the entry after it, the outcome, the notices in order. -/
structure Judged where
  entry : FlowEntry
  outcome : Classified
  notices : List Notice
  deriving DecidableEq, Repr

/-- Path evidence (R28): the path goes UP with silence count 0. -/
def evidence (p : PortId) (e : FlowEntry) : FlowEntry :=
  { e with paths := setPerPort e.paths p { up := true, silence := 0 } }

/-- R28: PATH_UP is requested when path p goes UP on a LIVE BOTH entry whose other path is UP. -/
def evidenceNotices (p : PortId) (e : FlowEntry) : List Notice :=
  if (perPort e.paths p).up = false ∧ e.state = .live ∧ e.ports = .both ∧ (perPort e.paths (otherPort p)).up = true then
    [.pathUp e.flow p]
  else []

/-- A resync to sequence s (R25). -/
def resync (s : Word) (e : FlowEntry) : FlowEntry := { e with high := some s, window := 1, staleRun := 0 }

/-- R29: a block classified for an ARMED or SILENT entry. -/
def judgeFirst (s : Word) (e : FlowEntry) : Judged :=
  { entry := { resync s e with state := .live, counters := { e.counters with accepted := bump e.counters.accepted } }
    outcome := .accepted
    notices := if e.state = .silent then [.flowResumed e.flow] else [] }

/-- R32, R33: a resync of a LIVE entry with its cause. -/
def judgeResync (s : Word) (cause : ResyncCause) (e : FlowEntry) : Judged :=
  { entry :=
      { resync s e with
        counters := { e.counters with resyncs := bump e.counters.resyncs, accepted := bump e.counters.accepted } }
    outcome := .accepted
    notices := [.flowResync e.flow cause] }

/-- R30, R31: a duplicate. -/
def judgeDuplicate (e : FlowEntry) : Judged :=
  { entry := { e with counters := { e.counters with duplicates := bump e.counters.duplicates } }
    outcome := .duplicate
    notices := [] }

/-- R30: a block d ahead of H, DISC clear. -/
def judgeAhead (s : Word) (d : Nat) (e : FlowEntry) : Judged :=
  { entry :=
      { e with
        high := some s
        window := (e.window <<< d) ||| 1
        staleRun := 0
        counters :=
          { e.counters with gaps := satAdd e.counters.gaps (d - 1), accepted := bump e.counters.accepted }
        gapFlag := e.gapFlag || decide (1 < d) }
    outcome := .accepted
    notices := if 1 < d ∧ e.gapFlag = false then [.flowGap e.flow (word (d - 1))] else [] }

/-- R31: a block b behind H whose mark is clear, DISC clear. -/
def judgeRecovered (b : Nat) (e : FlowEntry) : Judged :=
  { entry :=
      { e with
        window := e.window ||| (1#32 <<< b)
        staleRun := 0
        counters :=
          { e.counters with recovered := bump e.counters.recovered, accepted := bump e.counters.accepted } }
    outcome := .accepted
    notices := [] }

/-- R32: a block 32 or more behind H, DISC clear; the eighth of a run resyncs. -/
def judgeStale (s : Word) (e : FlowEntry) : Judged :=
  if Config.staleRunLimit ≤ e.staleRun + 1 then judgeResync s .staleRun e
  else
    { entry := { e with staleRun := e.staleRun + 1, counters := { e.counters with stale := bump e.counters.stale } }
      outcome := .stale
      notices := [] }

/-- R30..R33: a block classified for a LIVE entry with highest accepted sequence h. The duplicate tests come first, then
DISC. -/
def judgeLive (s : Word) (disc : Bool) (h : Word) (e : FlowEntry) : Judged :=
  let d := (s - h).toNat
  let b := 65536 - d
  if d = 0 then judgeDuplicate e
  else if 32768 ≤ d ∧ b ≤ 31 ∧ e.window.getLsbD b = true then judgeDuplicate e
  else if disc then judgeResync s .disc e
  else if d < 32768 then judgeAhead s d e
  else if b ≤ 31 then judgeRecovered b e
  else judgeStale s e

/-- Step 4 of R27. -/
def judge (s : Word) (disc : Bool) (e : FlowEntry) : Judged :=
  match e.state with
  | .armed => judgeFirst s e
  | .silent => judgeFirst s e
  | .live => judgeLive s disc (e.high.getD 0) e

/-- A change of one port's unknown-flow count (R45). -/
def countUnknown (p : PortId) (s : State) : State :=
  setClassifier
    { s.classifier with unknown := setPerPort s.classifier.unknown p (bump (perPort s.classifier.unknown p)) } s

/-- The classification of a block and, when it is accepted, its placement (R27, R34). -/
def classify (m : Media) (p : PortId) (s : State) : State :=
  match findFlow m.flow s.classifier.table with
  | none => countUnknown p s
  | some e =>
    if inSet e.ports p = false then
      setTable
        (replaceFlow { e with counters := { e.counters with wrongPort := bump e.counters.wrongPort } }
          s.classifier.table)
        s
    else
      let j := judge m.seq m.disc (evidence p e)
      let s1 := requestAll (evidenceNotices p e ++ j.notices) (setTable (replaceFlow j.entry s.classifier.table) s)
      match j.outcome with
      | .accepted => place m p s1
      | .duplicate => s1
      | .stale => s1

/-- The arbiter's choice (R23). -/
def servedPort (s : State) : Option PortId :=
  match s.ports.a.buffer, s.ports.b.buffer with
  | [], [] => none
  | _ :: _, [] => some .a
  | [], _ :: _ => some .b
  | _ :: _, _ :: _ => some (otherPort s.classifier.lastServed)

/-- The head of a port's receive buffer taken (R24). -/
def takeFrom (p : PortId) (s : State) : State :=
  match (portOf s p).buffer with
  | [] => s
  | m :: rest =>
    classify m p
      (setClassifier { s.classifier with lastServed := p } (setPort p { portOf s p with buffer := rest } s))

/-- A take (R23, R24); with both buffers empty there is none. -/
def takeBlock (s : State) : State :=
  match servedPort s with
  | none => s
  | some p => takeFrom p s

/-! ## The watch sweep (R35..R37) -/

/-- A path at a sweep with lapse limit L (R36). DESIGN CHOICE: with L = 1 the sweep after a take raises the count to 1 and the path
goes DOWN, as R36 states; the first row of R38 would leave it UP (log entry 23). -/
def sweepPath (lapse : BitVec 8) (x : Path) : Path :=
  if x.up then
    let n := min (x.silence.toNat + 1) 255
    { up := decide (n < lapse.toNat), silence := BitVec.ofNat 8 n }
  else x

/-- An entry at a sweep, and its notices (R36, R37). -/
def sweepEntry (e : FlowEntry) : FlowEntry × List Notice :=
  if e.lapse = 0 then (e, [])
  else
    let a := sweepPath e.lapse e.paths.a
    let b := sweepPath e.lapse e.paths.b
    let swept := { e with paths := { a := a, b := b } }
    match e.state with
    | .armed => (swept, [])
    | .silent => (swept, [])
    | .live =>
      if a.up = false ∧ b.up = false then ({ swept with state := .silent }, [.flowSilent e.flow])
      else if e.ports = .both ∧ e.paths.a.up = true ∧ a.up = false then (swept, [.pathDown e.flow .a])
      else if e.ports = .both ∧ e.paths.b.up = true ∧ b.up = false then (swept, [.pathDown e.flow .b])
      else (swept, [])

/-- The sweep of the whole table, in ascending identifier (R36). -/
def sweepTable (s : State) : State :=
  requestAll (s.classifier.table.flatMap fun e => (sweepEntry e).2)
    (setTable (s.classifier.table.map fun e => (sweepEntry e).1) s)

/-- WATCH_SWEEP (R35): an expiry of the timer not yet served advances the sweep number and sweeps the table. Without one there
is no event (log entry 2). -/
def watchSweep (s : State) : State :=
  if s.classifier.sweepsDue = 0 then s
  else
    sweepTable
      (setClassifier
        { s.classifier with
          sweepsDue := s.classifier.sweepsDue - 1
          sweepNumber := s.classifier.sweepNumber + 1 }
        s)

/-! ## Flow directives (R39..R44) -/

/-- A new entry (R39). -/
def newFlow (a : FlowSetArgs) : FlowEntry :=
  { flow := a.flow, state := .armed, ports := a.ports, lapse := a.lapse, paths := { a := newPath, b := newPath },
    high := none, window := 0, staleRun := 0, counters := zeroFlowCounters, gapFlag := false }

/-- The record a port has after a change of the port set: kept when it stays, new when it is added, gone when it is removed
(R40). -/
def keptPath (old new : PortSet) (p : PortId) (x : Path) : Path := if inSet old p && inSet new p then x else newPath

/-- FLOW_SET on a flow that has an entry (R40). -/
def changeFlow (a : FlowSetArgs) (e : FlowEntry) : FlowEntry :=
  { e with
    ports := a.ports
    lapse := a.lapse
    paths := { a := keptPath e.ports a.ports .a e.paths.a, b := keptPath e.ports a.ports .b e.paths.b } }

/-- FLOW_SET at the classifier (R39, R40). -/
def ownFlowSet (a : FlowSetArgs) (s : State) : Answer :=
  match findFlow a.flow s.classifier.table with
  | some e => done (setTable (replaceFlow (changeFlow a e) s.classifier.table) s)
  | none =>
    if s.classifier.table.length < Config.tableEntries then done (setTable (insertFlow (newFlow a) s.classifier.table) s)
    else refuse .tableFull s

/-- FLOW_CLEAR at the classifier (R41). -/
def ownFlowClear (f : Word) (s : State) : Answer :=
  match findFlow f s.classifier.table with
  | some _ => done (setTable (s.classifier.table.filter fun e => e.flow != f) s)
  | none => refuse .noEntry s

/-- FLOW_ZERO at the classifier (R42). -/
def ownFlowZero (f : Word) (s : State) : Answer :=
  match findFlow f s.classifier.table with
  | some e =>
    done (setTable (replaceFlow { e with counters := zeroFlowCounters, gapFlag := false } s.classifier.table) s)
  | none => refuse .noEntry s

/-- Flow state codes (R43). -/
def flowStateCode : FlowState → Nat
  | .armed => 0
  | .live => 1
  | .silent => 2

/-- Port set codes (R43). -/
def portSetCode : PortSet → Nat
  | .a => 1
  | .b => 2
  | .both => 3

/-- The path word of FLOW_READ (R43 words 3 and 4). -/
def pathWord (ports : PortSet) (p : PortId) (x : Path) : Word :=
  if inSet ports p then word (32768 + x.up.toNat * 16384 + x.silence.toNat) else 0

/-- The 24 words of FLOW_READ (R43). -/
def flowWords (e : FlowEntry) : List Word :=
  [e.flow,
    word (flowStateCode e.state * 16384 + portSetCode e.ports * 4096 + e.gapFlag.toNat * 2048 +
      e.high.isSome.toNat * 1024 + e.staleRun),
    e.lapse.setWidth 16, pathWord e.ports .a e.paths.a, pathWord e.ports .b e.paths.b, e.high.getD 0] ++
  ([e.window, e.counters.accepted, e.counters.duplicates, e.counters.stale, e.counters.gaps, e.counters.recovered,
    e.counters.resyncs, e.counters.wrongPort, e.counters.unplaced].flatMap twoWords)

/-- FLOW_READ at the classifier (R43, R149). -/
def ownFlowRead (f : Word) (room : Nat) (s : State) : Answer :=
  match findFlow f s.classifier.table with
  | some e => readOut room (flowWords e) s
  | none => refuse .noEntry s

/-- The identifiers FLOW_LIST gives (R44). -/
def listedFlows (start : Word) (count : Nat) (t : List FlowEntry) : List Word :=
  ((t.filter fun e => decide (start.toNat ≤ e.flow.toNat)).map (·.flow)).take count

/-- FLOW_SET with its form stage (R147). -/
def serveFlowSet (ps : List Word) (_room : Nat) (s : State) : Answer :=
  afterForm (formFlowSet ps) (fun a => ownFlowSet a s) s

/-- FLOW_CLEAR with its form stage (R148). -/
def serveFlowClear (ps : List Word) (_room : Nat) (s : State) : Answer :=
  afterForm (formFlow ps) (fun f => ownFlowClear f s) s

/-- FLOW_ZERO with its form stage (R148). -/
def serveFlowZero (ps : List Word) (_room : Nat) (s : State) : Answer :=
  afterForm (formFlow ps) (fun f => ownFlowZero f s) s

/-- FLOW_READ with its form stage (R149). -/
def serveFlowRead (ps : List Word) (room : Nat) (s : State) : Answer :=
  afterForm (formFlow ps) (fun f => ownFlowRead f room s) s

/-- FLOW_LIST with its form stage (R150). -/
def serveFlowList (ps : List Word) (room : Nat) (s : State) : Answer :=
  afterForm (formFlowList ps) (fun a => readOut room (listedFlows a.1 a.2 s.classifier.table) s) s

/-- The command TAKE. -/
def execTake (s : State) : Host.Outcome State Fault Refusal := .next (takeBlock s)

/-- The command WATCH_SWEEP. -/
def execWatchSweep (s : State) : Host.Outcome State Fault Refusal := .next (watchSweep s)

end Sys2Proof.Machine
end

