-- ==== Sys2Proof/Machine/Control.lean ====
section
/-! DEFINITION. The control unit (08_control_blocks_and_the_control_unit.md): offers (R123..R126), execution (R127..R131), the
finish (R132), the reply cache (R133), and the issue of one directive. -/

namespace Sys2Proof.Machine

/-! ## Offers (R123..R126, R133) -/

/-- The address check (R123). -/
def addressMatches (c : Control) (a : BitVec 8) : Bool :=
  if a.toNat ≤ 63 then decide (a = c.unitAddr.setWidth 8)
  else if a.toNat = 255 then true
  else decide (c.group = some a)

/-- The first copy of a key, in the intake or the reply cache: its arrival port and arrival sweep, and for a cached block its
response (R124). -/
structure FirstCopy where
  port : PortId
  sweep : Word
  /-- none for an intake entry. -/
  response : Option (List Word)
  deriving DecidableEq, Repr

/-- The intake entry of a key (R122). -/
def intakeMatch (origin seq : Word) (c : Control) : Option FirstCopy :=
  (c.intake.find? fun e => e.origin == origin && e.seq == seq).map fun e =>
    { port := e.port, sweep := e.sweep, response := none }

/-- The reply-cache entry of a key (R133). -/
def cacheMatch (origin seq : Word) (c : Control) : Option FirstCopy :=
  (c.cache.find? fun e => e.origin == origin && e.seq == seq).map fun e =>
    { port := e.port, sweep := e.sweep, response := some e.response }

/-- The lookup of R124. -/
def findKey (origin seq : Word) (c : Control) : Option FirstCopy :=
  match intakeMatch origin seq c with
  | some x => some x
  | none => cacheMatch origin seq c

/-- R124: a copy is a twin when it comes by the other port within the twin interval. -/
def isTwin (x : FirstCopy) (p : PortId) (sweep : Word) : Bool :=
  decide (p ≠ x.port) && decide ((sweep - x.sweep).toNat ≤ 1)

/-- A change of the control counters. -/
def countControl (f : ControlCounters → ControlCounters) (s : State) : State :=
  setControl { s.control with counters := f s.control.counters } s

/-- A retry answered from the cache according to its own REPLY_WANTED (R133). -/
def answerRetry (wanted : Bool) (response : List Word) (s : State) : State :=
  if wanted = false then countControl (fun c => { c with retries := bump c.retries }) s
  else if occupancy s.reports < Config.reportEntries then
    pushReport .response (markResent response) (countControl (fun c => { c with retries := bump c.retries }) s)
  else countControl (fun c => { c with retriesDropped := bump c.retriesDropped }) s

/-- A block whose key is held (R124). -/
def meetFirstCopy (x : FirstCopy) (p : PortId) (payload : List Word) (s : State) : State :=
  if isTwin x p s.classifier.sweepNumber then countControl (fun c => { c with twins := bump c.twins }) s
  else
    match x.response with
    | none => countControl (fun c => { c with retriesDropped := bump c.retriesDropped }) s
    | some r => answerRetry (replyWanted payload) r s

/-- A block that is new: admitted while the intake holds fewer than 4 entries, else discarded (R126). -/
def admitControl (o : Offer) (s : State) : State :=
  if s.control.intake.length < Config.intakeEntries then
    setControl
      { s.control with
        intake := s.control.intake ++
          [{ origin := wordAt o.payload 1, seq := o.seq, port := o.port, sweep := s.classifier.sweepNumber
             payload := o.payload }] }
      s
  else intakeOverrun s

/-- An offer served (R123, R124, R126). -/
def judgeOffer (o : Offer) (s : State) : State :=
  if o.payload.length < 3 ∨ addressMatches s.control (addressOf o.payload) = false then
    countControl (fun c => { c with notMine := bump c.notMine }) s
  else
    match findKey (wordAt o.payload 1) o.seq s.control with
    | some x => meetFirstCopy x o.port o.payload s
    | none => admitControl o s

/-- A RESTART FULL is in progress (R137). -/
def restartingFull (s : State) : Bool := decide (s.control.restart.map (·.scope) = some .full)

/-- CONTROL_BLOCK_OFFER: offers are served in the order of their completions (R15). An offer that stands behind another waits
its turn; with no offer waiting, the offer is served as it comes (log entry 4). Offers that come while a RESTART FULL is in
progress wait for its end (R137). -/
def serveOffer (o : Offer) (s : State) : State :=
  match restartingFull s, s.offers with
  | true, [] => setOffers [o] s
  | true, _ :: _ => s
  | false, [] => judgeOffer o s
  | false, first :: rest => if o = first then judgeOffer o (setOffers rest s) else s

/-! ## Execution (R127..R132) -/

/-- A directive has failed (R130). -/
def failed (st : Status) : Bool := !succeeded st

/-- An entry for a directive not run (R130). -/
def notRunEntry (e : Envelope) : ResultEntry := { code := e.code, status := .notRun, results := [] }

/-- Result words already given. -/
def wordsGiven (es : List ResultEntry) : Nat := (es.map fun e => e.results.length).sum

/-- The room left for result words: 256 − 4 − 2 × COUNT minus those already given (R131). -/
def roomLeft (x : Execution) : Nat :=
  Config.responseWords - 4 - 2 * (x.todo.length + x.entries.length) - wordsGiven x.entries

/-- The reply cache with an entry made: the oldest of 8 is removed first (R132, R133). -/
def cacheWith (e : CacheEntry) (cache : List CacheEntry) : List CacheEntry :=
  (if Config.cacheEntries ≤ cache.length then cache.tail else cache) ++ [e]

/-- The wanted response admitted into its reserved place, and the reservation ended (R132 step 2, R179). -/
def admitResponse (payload : List Word) (s : State) : State :=
  pushReport .response payload (setReports { s.reports with reserved := false } s)

/-- The finish of the block at the head of the intake (R132). -/
def finishBlock (status : BlockStatus) (entries : List ResultEntry) (s : State) : State :=
  match s.control.intake with
  | [] => setControl { s.control with execution := none } s
  | b :: rest =>
    let payload := responsePayload s.control.unitAddr b status entries
    let s1 := if replyWanted b.payload then admitResponse payload s else s
    setControl
      { s1.control with
        cache := cacheWith
          { origin := b.origin, seq := b.seq, port := b.port, sweep := b.sweep, response := payload } s1.control.cache
        intake := rest
        overrunFlag := false
        execution := none }
      s1

/-- The next of the blocks to finish has done so (log entry 26). -/
def useFinish (s : State) : State :=
  setSurroundings { s.surroundings with finishes := s.surroundings.finishes.tail } s

/-- The last entry of a block is made, or its walk has failed: the block finishes at once (R132), or, its finish and the notices of
its directives being requests of different blocks to the report generator (R176), in a later EXECUTION_START (log entry 26). -/
def endBlock (status : BlockStatus) (entries : List ResultEntry) (s : State) : State :=
  match s.surroundings.finishes.headD .atOnce with
  | .atOnce => finishBlock status entries (useFinish s)
  | .later =>
    setControl { s.control with execution := some { todo := [], entries := entries, ended := some status } } (useFinish s)

/-- R127: the IDLE control unit may start the head block. -/
def mayStart (s : State) : Bool :=
  decide (s.control.execution = none) && decide (s.control.restart = none) && decide (s.control.inquiry = none) &&
    decide (s.control.intake ≠ []) && decide (s.reports.queue.length < Config.reportEntries)

/-- A reservation made for a block with REPLY_WANTED set (R127, R179). -/
def reserveFor (b : IntakeEntry) (s : State) : State :=
  if replyWanted b.payload then setReports { s.reports with reserved := true } s else s

/-- A block started: the reservation, then the walk (R127, R128). -/
def startBlock (b : IntakeEntry) (s : State) : State :=
  let s1 := reserveFor b s
  match envelopesOf b.payload with
  | none => endBlock .malformed [] s1
  | some es => setControl { s1.control with execution := some { todo := es, entries := [] } } s1

/-- The head block started, when it may be (R127). -/
def startHead (s : State) : State :=
  match s.control.intake with
  | [] => s
  | b :: _ => if mayStart s then startBlock b s else s

/-- EXECUTION_START: the head block starts (R127), or the finish of the block in execution is served, when it waits (R132, log entry
26). DESIGN CHOICE: the start is judged when this command comes, where R127 and R132 judge it at each admission, finish and
notice that the queue has fallen below 16 (log entry 28). -/
def executionStart (s : State) : State :=
  match s.control.execution with
  | none => startHead s
  | some x =>
    match x.ended with
    | none => s
    | some status => finishBlock status x.entries s

/-! ## The issue of a directive (R129..R131) -/

/-- The room the control unit gives a directive; a directive issued alone has the room of a block of one (R131, log entry 5). -/
def roomFor (s : State) : Nat :=
  match s.control.execution with
  | none => Config.loneRoom
  | some x => roomLeft x

/-- The parameter of RESTART (R136). -/
def scopeCode : RestartScope → Word
  | .lanes => 1
  | .full => 2

/-- The directive RESTART with a scope. -/
def restartEnvelope (scope : RestartScope) : Envelope := { code := directiveCode .restart, params := [scopeCode scope] }

/-- The control unit waits for no answer but this directive's: that of a RESTART in progress (R136, R137) or of a directive whose
owners are being asked (R143, R146), since it issues no other until that is served (R129). -/
def awaited (e : Envelope) (s : State) : Bool :=
  s.control.restart.all (fun r => decide (e = restartEnvelope r.scope)) &&
    s.control.inquiry.all fun q => decide (e = q.envelope)

/-- A directive may be issued: it is the next envelope of the block in execution (R129), or no block executes and it is issued
alone (log entry 5); while a RESTART or an inquiry is in progress it is that directive. -/
def issuable (e : Envelope) (s : State) : Bool :=
  awaited e s &&
    match s.control.execution with
    | none => true
    | some x => decide (x.todo.head? = some e)

/-- CONTINUE of the block in execution (R4, R130). -/
def blockContinues (s : State) : Bool :=
  match s.control.intake with
  | [] => false
  | b :: _ => continueSet b.payload

/-- The answer of a directive received by the control unit (R121, R130): it becomes the directive's entry; a failure with
CONTINUE clear stops the block, and the last entry ends it (log entry 16). -/
def conclude (r : ResultEntry) (s : State) : State :=
  let s1 := setControl { s.control with lastAnswer := some r } s
  match s.control.execution with
  | none => s1
  | some x =>
    if failed r.status && !blockContinues s then
      endBlock .stopped (x.entries ++ [r] ++ x.todo.tail.map notRunEntry) s1
    else
      match x.todo.tail with
      | [] => endBlock .complete (x.entries ++ [r]) s1
      | rest => setControl { s1.control with execution := some { todo := rest, entries := x.entries ++ [r] } } s1

/-- A directive issued to its owner and its answer received (R129). -/
def issue (e : Envelope) (serve : Nat → State → Answer) (s : State) : State :=
  if issuable e s then
    let a := serve (roomFor s) s
    conclude { code := e.code, status := a.status, results := a.results } a.state
  else s

/-- A directive of the code table issued with its parameters. -/
def issueDirective (d : Directive) (ps : List Word) (serve : List Word → Nat → State → Answer) (s : State) : State :=
  issue { code := directiveCode d, params := ps } (serve ps) s

/-! ## Directives whose owners are asked in turn (R143, R146) -/

/-- The owners a directive asks, by number in their order: how many they are, which of them makes it wait, the words each gives, what
each does when asked, and how the words become the result. -/
structure Owners where
  count : Nat
  waits : Nat → State → Bool
  words : Nat → State → List Word
  effect : Nat → State → State
  result : List Word → List Word

/-- The inquiry of a directive as it stands: the one in progress, or one that has asked nobody. -/
def inquiryOf (e : Envelope) (s : State) : Inquiry := s.control.inquiry.getD { envelope := e, asked := 0, words := [] }

/-- The owners that answer in this step: the next ones in order, as many as the surroundings say (all of them when they say nothing),
up to one that waits. -/
def ownersNow (o : Owners) (q : Inquiry) (s : State) : List Nat :=
  (((List.range o.count).drop q.asked).take (s.surroundings.asks.headD o.count)).takeWhile fun k => !o.waits k s

/-- The inquiry after this step's answers. -/
def inquiryNow (o : Owners) (q : Inquiry) (s : State) : Inquiry :=
  { q with
    asked := q.asked + (ownersNow o q s).length
    words := q.words ++ (ownersNow o q s).flatMap fun k => o.words k s }

/-- The part after this step's answers, one of the surroundings' choices used. -/
def askOwners (o : Owners) (q : Inquiry) (s : State) : State :=
  setSurroundings { s.surroundings with asks := s.surroundings.asks.tail }
    ((ownersNow o q s).foldl (fun t k => o.effect k t) s)

/-- The control unit with an inquiry in progress, or none. -/
def setInquiry (q : Option Inquiry) (s : State) : State := setControl { s.control with inquiry := q } s

/-- One step of an inquiry: some owners answer, and when the last has, the directive is answered within its room (R131, R141). -/
def advanceInquiry (e : Envelope) (o : Owners) (s : State) : State :=
  let q := inquiryNow o (inquiryOf e s) s
  let t := askOwners o (inquiryOf e s) s
  if q.asked < o.count then setInquiry (some q) t
  else
    let a := readOut (roomFor t) (o.result q.words) (setInquiry none t)
    conclude { code := e.code, status := a.status, results := a.results } a.state

/-- A directive whose owners are asked in turn. While owners have not yet answered, the command comes again (R143, R146, log entry
9). -/
def inquire (e : Envelope) (o : Owners) (s : State) : State := if issuable e s then advanceInquiry e o s else s

/-- Such a directive of the code table with its form stage: a form failure is answered at once and asks nobody (R140). -/
def inquireDirective {α : Type} (d : Directive) (form : List Word → Except Status α) (owners : α → Owners) (ps : List Word)
    (s : State) : State :=
  match form ps with
  | .ok x => inquire { code := directiveCode d, params := ps } (owners x) s
  | .error st => issueDirective d ps (fun _ _ t => refuse st t) s

/-- The command CONTROL_BLOCK_OFFER. -/
def execControlBlockOffer (p : PortId) (seq : Word) (payload : List Word) (s : State) :
    Host.Outcome State Fault Refusal :=
  .next (serveOffer { port := p, seq := seq, payload := payload } s)

/-- The command EXECUTION_START. -/
def execExecutionStart (s : State) : Host.Outcome State Fault Refusal := .next (executionStart s)

end Sys2Proof.Machine
end

