-- ==== Sys2Proof/Machine/Ports.lean ====
section
/-! DEFINITION. Ingress ports (02_ingress_ports.md): link events, reception, the completion checks, dispatch, and what
PORT_READ and PORT_ZERO ask of a port. -/

namespace Sys2Proof.Machine

/-- A change of a port's counters. -/
def countPort (p : PortId) (f : PortCounters → PortCounters) (s : State) : State :=
  setPort p { portOf s p with counters := f (portOf s p).counters } s

/-- A block in reception is abandoned: counted under truncated, a port error, reception closed (R11, R12). -/
def abandonReception (p : PortId) (s : State) : State :=
  portError p
    (setPort p
      { portOf s p with
        receiving := false
        counters := { (portOf s p).counters with truncated := bump (portOf s p).counters.truncated } }
      s)

/-- LINK_GAIN (R9). -/
def linkGain (p : PortId) (s : State) : State :=
  if (portOf s p).up then s
  else request (.portUp p) (setPort p { portOf s p with up := true } s)

/-- LINK_LOSS (R9, R11): a block in reception is abandoned first, so PORT_ERRORS precedes PORT_DOWN. -/
def linkLoss (p : PortId) (s : State) : State :=
  if (portOf s p).up then
    let s1 := if (portOf s p).receiving then abandonReception p s else s
    request (.portDown p) (setPort p { portOf s1 p with up := false } s1)
  else s

/-- BLOCK_START (R10): opens reception; a block already in reception is abandoned. -/
def blockStart (p : PortId) (s : State) : State :=
  if (portOf s p).up then
    let s1 := if (portOf s p).receiving then abandonReception p s else s
    setPort p { portOf s1 p with receiving := true } s1
  else s

/-- FRAMING_FAULT (R12). -/
def framingFault (p : PortId) (s : State) : State :=
  if (portOf s p).up && (portOf s p).receiving then abandonReception p s else s

/-- A good media block: counted, and appended to the receive buffer or dropped as overflow (R16). -/
def receiveMedia (p : PortId) (m : Media) (s : State) : State :=
  let s1 := countPort p (fun c => { c with mediaGood := bump c.mediaGood }) s
  if (portOf s1 p).buffer.length < Config.bufferPlaces then
    setPort p { portOf s1 p with buffer := (portOf s1 p).buffer ++ [m] } s1
  else portError p (countPort p (fun c => { c with overflow := bump c.overflow }) s1)

/-- A good control block: counted, and offered to the control unit with its arrival port (R15). -/
def receiveControl (p : PortId) (o : Offer) (s : State) : State :=
  let s1 := countPort p (fun c => { c with controlGood := bump c.controlGood }) s
  setOffers (s1.offers ++ [o]) s1

/-- The three checks of a completed block, in order, and its dispatch (R13, R15, R16). -/
def checkCompleted (p : PortId) (ws : List Word) (s : State) : State :=
  if lengthGood ws = false then portError p (countPort p (fun c => { c with length := bump c.length }) s)
  else if crcGood ws = false then portError p (countPort p (fun c => { c with crc := bump c.crc }) s)
  else if mediaGood ws then receiveMedia p (mediaOf ws) s
  else if controlGood ws then receiveControl p { port := p, seq := wordAt ws 2, payload := payloadOf ws } s
  else portError p (countPort p (fun c => { c with kind := bump c.kind }) s)

/-- BLOCK_COMPLETE (R10, R13, R14): in UP the block is counted under completed, reception closes and the words are checked. -/
def blockComplete (p : PortId) (ws : List Word) (s : State) : State :=
  if (portOf s p).up then
    checkCompleted p ws
      (setPort p
        { portOf s p with
          receiving := false
          counters := { (portOf s p).counters with completed := bump (portOf s p).counters.completed } }
        s)
  else s

/-- Words 0 to 16 of PORT_READ, which the port supplies together (R19, R146). -/
def portWords (x : Port) : List Word :=
  word (x.up.toNat * 32768 + x.errorFlag.toNat * 16384 + x.receiving.toNat * 8192 + x.buffer.length) ::
    ([x.counters.completed, x.counters.mediaGood, x.counters.controlGood, x.counters.crc, x.counters.length,
      x.counters.kind, x.counters.truncated, x.counters.overflow].flatMap twoWords)

/-- What each owner gives PORT_READ when asked (R19, R146): the port, number 0, its words, the classifier, number 1, its unknown-flow
count. -/
def portFigure (p : PortId) (s : State) : Nat → List Word
  | 0 => portWords (portOf s p)
  | _ => twoWords (perPort s.classifier.unknown p)

/-- PORT_ZERO at the port (R20): its counters and its flag. -/
def zeroPort (p : PortId) (s : State) : State :=
  setPort p { portOf s p with counters := zeroPortCounters, errorFlag := false } s

/-- PORT_ZERO at the classifier (R20): its unknown-flow count for the port. -/
def zeroUnknown (p : PortId) (s : State) : State :=
  setClassifier { s.classifier with unknown := setPerPort s.classifier.unknown p 0 } s

/-- What each owner of PORT_ZERO does when asked (R20, R146): the port, number 0, then the classifier, number 1 (DEDUCED: log entry
30). -/
def zeroOwner (p : PortId) : Nat → State → State
  | 0 => zeroPort p
  | _ => zeroUnknown p

/-- A port at RESTART FULL (R21): link state and reception are kept. -/
def restartPort (x : Port) : Port := { x with buffer := [], counters := zeroPortCounters, errorFlag := false }

/-- The command LINK_GAIN. -/
def execLinkGain (p : PortId) (s : State) : Host.Outcome State Fault Refusal := .next (linkGain p s)

/-- The command LINK_LOSS. -/
def execLinkLoss (p : PortId) (s : State) : Host.Outcome State Fault Refusal := .next (linkLoss p s)

/-- The command BLOCK_START. -/
def execBlockStart (p : PortId) (s : State) : Host.Outcome State Fault Refusal := .next (blockStart p s)

/-- The command BLOCK_COMPLETE. -/
def execBlockComplete (p : PortId) (words : List Word) (s : State) : Host.Outcome State Fault Refusal :=
  .next (blockComplete p words s)

/-- The command FRAMING_FAULT. -/
def execFramingFault (p : PortId) (s : State) : Host.Outcome State Fault Refusal := .next (framingFault p s)

end Sys2Proof.Machine
end

