-- ==== Sys2Proof/Machine/Lanes.lean ====
section
/-! DEFINITION. Lane schedulers: the slot event with its four stages (R83), presentation in every transport state (R85..R87,
R111..R119), slot frames (R88..R91), and the lane directives (R76, R92..R96). -/

namespace Sys2Proof.Machine

/-! ## Command stage (R109, R110) -/

/-- The state a taken command moves the lane to (R109). -/
def commandState : Command → LaneState
  | .run => .running
  | .hold => .held
  | .step => .stepping
  | .seek => .seeking
  | .cue => .cueing
  | .stop _ => .draining

/-- The stop mode after a command is taken (R109). -/
def commandStopMode (old : Option StopMode) : Command → Option StopMode
  | .stop mode => some mode
  | _ => old

/-- LANE_STATE for a change of state, nothing when the state stays (R99). -/
def stateNotice (l : LaneId) (old new : LaneState) : List Effect :=
  if old = new then [] else [.request (.laneState l old new)]

/-- The command stage: the head command is taken in the states that take one (R109). -/
def takeCommand (l : LaneId) (x : Lane) : Lane × List Effect :=
  match x.commands with
  | [] => (x, [])
  | c :: rest =>
    if admitsUnits x.state then
      ({ x with commands := rest, state := commandState c, stopMode := commandStopMode x.stopMode c },
        stateNotice l x.state (commandState c))
    else (x, [])

/-! ## Presentation stage -/

/-- What a presentation decides: the lane after it, its effects in order, the frame kind. The unit of a UNIT or REPEAT frame is
the lane's held unit. -/
structure Presented where
  lane : Lane
  effects : List Effect
  kind : FrameKind
  deriving DecidableEq, Repr

/-- The eligible prefix (R84). -/
def eligible (slot : Tick) (q : List Entry) : List Entry := q.takeWhile fun e => atOrBefore e.release slot

/-- The entries behind the eligible prefix. -/
def beyond (slot : Tick) (q : List Entry) : List Entry := q.dropWhile fun e => atOrBefore e.release slot

/-- REPEAT of the held unit, or FILL when there is none, counted (R86, R112, R118). -/
def repeatOrFill (x : Lane) : Presented :=
  match x.held with
  | some _ =>
    { lane := { x with counters := { x.counters with repeated := bump x.counters.repeated } }, effects := []
      kind := .repeatFrame }
  | none =>
    { lane := { x with counters := { x.counters with filled := bump x.counters.filled } }, effects := []
      kind := .fillFrame }

/-- The selection of an entry: the entries passed over are released and counted as skipped, the old held unit is released, the
entry becomes the current unit and the datum its release time (R85, R111). -/
def selectEntry (e : Entry) (passed left : List Entry) (x : Lane) : Presented :=
  { lane :=
      { x with
        queue := left
        held := some e
        datum := e.release
        counters :=
          { x.counters with
            presented := bump x.counters.presented
            skipped := satAdd x.counters.skipped passed.length } }
    effects := releasesOf passed ++ releasesOf x.held.toList
    kind := .unitFrame }

/-- R111: the selection of an entry that may stand before the end of the eligible prefix, or beyond it. The entries behind it
of equal release time go with the entries ahead. -/
def selectOffTime (ahead : List Entry) (e : Entry) (behind : List Entry) (x : Lane) : Presented :=
  selectEntry e (ahead ++ behind.filter fun y => y.release == e.release) (behind.filter fun y => y.release != e.release) x

/-- Presentation by time (R85, R86), with LANE_UNDERRUN for a REPEAT or FILL (R87, R119). -/
def presentByTime (l : LaneId) (slot : Tick) (x : Lane) : Presented :=
  match (eligible slot x.queue).getLast? with
  | some e => selectEntry e (eligible slot x.queue).dropLast (beyond slot x.queue) x
  | none =>
    let r := repeatOrFill x
    let (marked, fx) := markUnderrun l r.lane
    { r with lane := marked, effects := fx }

/-- Entries skipped without a selection: removed, released and counted (R112, R115). -/
def skipEntries (skipped left : List Entry) (x : Lane) : Presented :=
  let r :=
    repeatOrFill
      { x with queue := left, counters := { x.counters with skipped := satAdd x.counters.skipped skipped.length } }
  { r with effects := releasesOf skipped }

/-- R112: HELD keeps the last eligible entry in the queue and skips those ahead of it. -/
def presentHeld (slot : Tick) (x : Lane) : Presented :=
  skipEntries (eligible slot x.queue).dropLast ((eligible slot x.queue).getLast?.toList ++ beyond slot x.queue) x

/-- A presentation followed by a spontaneous change of state, with its LANE_STATE (R99). -/
def thenState (l : LaneId) (new : LaneState) (r : Presented) : Presented :=
  { r with lane := { r.lane with state := new }, effects := r.effects ++ stateNotice l r.lane.state new }

/-- R113: STEPPING selects the head of the queue and goes HELD; with an empty queue the step stays pending. -/
def presentStepping (l : LaneId) (x : Lane) : Presented :=
  match x.queue with
  | [] => repeatOrFill x
  | e :: behind => thenState l .held (selectOffTime [] e behind x)

/-- The first marked entry of the eligible prefix with the entries ahead of it and behind it in the queue (R114, R115). -/
def findMarker (slot : Tick) (q : List Entry) : Option (List Entry × Entry × List Entry) :=
  match (eligible slot q).dropWhile fun e => !e.marker with
  | [] => none
  | e :: more => some ((eligible slot q).takeWhile (fun y => !y.marker), e, more ++ beyond slot q)

/-- R114: SEEKING. -/
def presentSeeking (l : LaneId) (slot : Tick) (x : Lane) : Presented :=
  match findMarker slot x.queue with
  | some (ahead, e, behind) => thenState l .held (selectOffTime ahead e behind x)
  | none => presentByTime l slot x

/-- R115: CUEING. -/
def presentCueing (l : LaneId) (slot : Tick) (x : Lane) : Presented :=
  match findMarker slot x.queue with
  | some (ahead, e, behind) => thenState l .running (selectOffTime ahead e behind x)
  | none => skipEntries (eligible slot x.queue) (beyond slot x.queue) x

/-- R117: a DRAINING lane parks: LAST keeps the current unit as the parked unit, FILL releases it. -/
def park (l : LaneId) (x : Lane) : Presented :=
  match x.stopMode with
  | some .last => thenState l .parked (repeatOrFill x)
  | _ =>
    let r := repeatOrFill { x with held := none }
    thenState l .parked { r with effects := releasesOf x.held.toList }

/-- R116: DRAINING. -/
def presentDraining (l : LaneId) (slot : Tick) (x : Lane) : Presented :=
  match x.queue with
  | [] => park l x
  | _ :: _ => presentByTime l slot x

/-- The presentation stage (R83 stage 2). An IDLE lane serves no slot event. -/
def present (l : LaneId) (slot : Tick) (x : Lane) : Presented :=
  match x.state with
  | .idle => repeatOrFill x
  | .running => presentByTime l slot x
  | .held => presentHeld slot x
  | .stepping => presentStepping l x
  | .seeking => presentSeeking l slot x
  | .cueing => presentCueing l slot x
  | .draining => presentDraining l slot x
  | .parked => repeatOrFill x

/-! ## Frame stage and grid (R81, R88, R90) -/

/-- A frame that begins at a slot event (R8, R88), given the payload length of the held unit's block. -/
def newFrame (kind : FrameKind) (slot : Tick) (x : Lane) (payloadLength : Nat) : Frame :=
  match kind, x.held with
  | .unitFrame, some e =>
    { kind := .unitFrame, lstate := x.state, marker := e.marker, disc := e.disc, flow := e.flow, seq := e.seq
      slot := slot, upts := e.pts, length := payloadLength, block := some e.block, fillWord := x.config.fillWord
      divisor := x.config.divisor, elapsed := 0 }
  | .repeatFrame, some e =>
    { kind := .repeatFrame, lstate := x.state, marker := false, disc := false, flow := e.flow, seq := e.seq
      slot := slot, upts := e.pts, length := payloadLength, block := some e.block, fillWord := x.config.fillWord
      divisor := x.config.divisor, elapsed := 0 }
  | _, _ =>
    { kind := .fillFrame, lstate := x.state, marker := false, disc := false, flow := 0, seq := 0, slot := slot, upts := 0
      length := x.config.fillLength.toNat, block := none, fillWord := x.config.fillWord, divisor := x.config.divisor
      elapsed := 0 }

/-- The payload length of the lane's held unit, from its stored block. -/
def heldLength (s : State) (x : Lane) : Nat :=
  match x.held with
  | some e => (blockPayload s.store e.block).length
  | none => 0

/-- A frame begins, and its block gains a holder (R51, R88). -/
def beginFrame (l : LaneId) (kind : FrameKind) (slot : Tick) (s : State) : State :=
  let f := newFrame kind slot (laneOf s l) (heldLength s (laneOf s l))
  let s1 := setLane l { laneOf s l with frame := some f } s
  match f.block with
  | some ref => addHolder ref s1
  | none => s1

/-- The frame stage (R83 stage 3): the frame begins, or the slot is an overrun (R90). -/
def frameStage (l : LaneId) (kind : FrameKind) (slot : Tick) (s : State) : State :=
  match (laneOf s l).frame with
  | some _ => overrunSlot l s
  | none => beginFrame l kind slot s

/-- The grid advance (R81). -/
def advanceGrid (x : Lane) : Lane :=
  let total := x.remainder.toNat + x.config.cn.toNat
  { x with
    nextSlot := x.nextSlot + BitVec.ofNat 32 (total / x.config.cd.toNat)
    remainder := word (total % x.config.cd.toNat) }

/-- A lane's slot event is due: the lane holds a grid and TB has reached its next slot time (R65, R83, log entry 2). TB comes to lie at or
after a next slot time by counting alone: a START puts it strictly after TB (R101), a TIME_ADJUST moves both (R69), a TIME_SET needs
every lane IDLE (R67), and a RESTART FULL restarts the time base after the last lane (log entry 27). A grid advance or a re-anchor
that leaves it at or before TB is served at once (R69). -/
def slotDue (s : State) (l : LaneId) : Bool :=
  decide ((laneOf s l).state ≠ .idle) && atOrBefore (laneOf s l).nextSlot s.time.tb

/-- The command and presentation stages of a lane (R83 stages 1 and 2). -/
def commandAndPresent (l : LaneId) (x : Lane) : Presented :=
  let (taken, fx) := takeCommand l x
  let r := present l x.nextSlot taken
  { r with effects := fx ++ r.effects }

/-- A slot event (R83). -/
def serveSlot (l : LaneId) (s : State) : State :=
  let slot := (laneOf s l).nextSlot
  let r := commandAndPresent l (laneOf s l)
  let s1 := applyEffects r.effects (setLane l r.lane s)
  let s2 := frameStage l r.kind slot s1
  setLane l (advanceGrid (laneOf s2 l)) s2

/-- SLOT_EVENT: served when due, else no event happens (R65, R103). -/
def slotEvent (l : LaneId) (s : State) : State := if slotDue s l then serveSlot l s else s

/-- R88: the transmission completes (8 + FLEN) × W ticks after the slot event. -/
def frameComplete (x : Lane) : Bool :=
  match x.frame with
  | some f => decide (frameTicks f ≤ f.elapsed)
  | none => false

/-- The effects of a frame leaving the output: its reference is released (R89, R91). -/
def frameRelease (x : Lane) : List Effect :=
  match x.frame with
  | some f => f.block.toList.map .release
  | none => []

/-- FRAME_COMPLETION (R89). -/
def frameCompletion (l : LaneId) (s : State) : State :=
  let x := laneOf s l
  if frameComplete x then applyEffects (frameRelease x) (setLane l { x with frame := none } s) else s

/-- The words of a lane's frame in transmission (R88). -/
def laneFrameWords (s : State) (l : LaneId) : List Word :=
  match (laneOf s l).frame with
  | some f => frameWords f (match f.block with
      | some ref => blockPayload s.store ref
      | none => [])
  | none => []

/-- The word leaving a lane output at the present tick (R88). -/
def laneOutput (s : State) (l : LaneId) : Option Word :=
  match (laneOf s l).frame with
  | some f => (frameWordNow f).bind fun k => (laneFrameWords s l)[k]?
  | none => none

/-! ## HALT and restarts (R104, R120) -/

/-- A lane emptied to IDLE: queue, held unit, commands, preceding command, stop mode, grid and datum (R104). -/
def emptied (x : Lane) : Lane :=
  { x with
    state := .idle, queue := [], held := none, commands := [], last := .none, stopMode := none, nextSlot := 0
    remainder := 0, datum := 0
    counters := { x.counters with flushed := satAdd x.counters.flushed x.queue.length } }

/-- HALT (R104): in IDLE it has no effect. -/
def haltLane (l : LaneId) (x : Lane) : Lane × List Effect :=
  if x.state = .idle then (x, [])
  else (emptied x, releasesOf x.queue ++ releasesOf x.held.toList ++ stateNotice l x.state .idle)

/-- The releases a lane makes at a restart: queue entries, held unit, abandoned frame (R62, R120). DESIGN CHOICE: the frame's comes
last, where R120 says only that it is released at once (log entry 24). -/
def restartReleases (x : Lane) : List Effect := releasesOf x.queue ++ releasesOf x.held.toList ++ frameRelease x

/-- A lane after RESTART LANES (R97, R120). -/
def restartedLane (x : Lane) : Lane := { emptied x with frame := none }

/-! ## Lane directives -/

/-- A pure change of a lane and its effects carried out. -/
def updateLane (l : LaneId) (r : Lane × List Effect) (s : State) : State := applyEffects r.2 (setLane l r.1 s)

/-- LANE_SET at the lane (R76). -/
def ownLaneSet (l : LaneId) (c : LaneConfig) (s : State) : Answer :=
  if (laneOf s l).state = .idle then done (setLane l { laneOf s l with config := c } s) else refuse .laneBusy s

/-- LANE_SOURCE's change of a lane (R92). -/
def switchSource (a : LaneSourceArgs) (x : Lane) : Lane × List Effect :=
  let old := x.config.source
  let moved := { x with config := { x.config with source := a.flow } }
  if a.cut then
    let removed := x.queue.filter fun e => e.flow == old
    ({ moved with
        queue := x.queue.filter fun e => e.flow != old
        counters := { x.counters with flushed := satAdd x.counters.flushed removed.length } },
      releasesOf removed)
  else (moved, [])

/-- LANE_SOURCE at the lane (R92, R152). -/
def ownLaneSource (a : LaneSourceArgs) (s : State) : Answer :=
  done (updateLane a.lane (switchSource a (laneOf s a.lane)) s)

/-- LANE_ZERO's change of a lane (R94). -/
def zeroLane (x : Lane) : Lane :=
  { x with counters := zeroLaneCounters, underrun := false, refused := false, overrun := false }

/-- The preceding accepted command as a directive code (R95 word 2). -/
def lastCode : LastCommand → Word
  | .none => 0
  | .start => 0x30
  | .run => 0x32
  | .hold => 0x33
  | .step => 0x34
  | .seek => 0x35
  | .cue => 0x36
  | .stop => 0x37

/-- Words 17 to 21 of LANE_READ: the held unit (R95). -/
def heldWords (s : State) (x : Lane) : List Word :=
  match x.held with
  | some e =>
    [word ((if x.state = .parked then 2 else 1) * 16384 + heldLength s x), e.flow, e.seq, highWord e.pts, lowWord e.pts]
  | none => [0, 0, 0, 0, 0]

/-- The 49 words of LANE_READ (R95). -/
def laneWords (s : State) (l : LaneId) : List Word :=
  let x := laneOf s l
  [word l.val,
    word (laneStateCode x.state * 4096 + x.commands.length * 256 + x.frame.isSome.toNat * 128 + x.underrun.toNat * 4 +
      x.refused.toNat * 2 + x.overrun.toNat),
    lastCode x.last, x.config.source] ++
  twoWords x.config.cn ++ [x.config.cd] ++ twoWords x.config.delay ++ twoWords x.config.offset ++
  [x.config.quota, x.config.divisor, x.config.fillWord, x.config.fillLength, word x.queue.length, word (charge x)] ++
  heldWords s x ++ twoWords x.datum ++ twoWords x.nextSlot ++ [x.remainder] ++
  ([x.counters.presented, x.counters.repeated, x.counters.filled, x.counters.skipped, x.counters.late, x.counters.early,
    x.counters.refusedQueue, x.counters.refusedQuota, x.counters.refusedStore, x.counters.flushed,
    x.counters.overruns].flatMap twoWords)

/-- The six words of a queue entry in LANE_PEEK (R96). -/
def entryPeek (s : State) (e : Entry) : List Word :=
  [e.flow, e.seq, highWord e.release, lowWord e.release,
    word (e.marker.toNat * 32768 + e.disc.toNat * 16384 + portCode e.port * 256 + e.cells),
    word (blockPayload s.store e.block).length]

/-- LANE_PEEK's words (R96). -/
def peekWords (s : State) (a : LanePeekArgs) : List Word :=
  (((laneOf s a.lane).queue.drop a.start).take a.count).flatMap (entryPeek s)

/-- LANE_SET with its form stage (R151). -/
def serveLaneSet (ps : List Word) (_room : Nat) (s : State) : Answer :=
  afterForm (formLaneSet ps) (fun a => ownLaneSet a.1 a.2 s) s

/-- LANE_SOURCE with its form stage (R152). -/
def serveLaneSource (ps : List Word) (_room : Nat) (s : State) : Answer :=
  afterForm (formLaneSource ps) (fun a => ownLaneSource a s) s

/-- LANE_READ with its form stage (R153). -/
def serveLaneRead (ps : List Word) (room : Nat) (s : State) : Answer :=
  afterForm (formLane ps) (fun l => readOut room (laneWords s l) s) s

/-- LANE_PEEK with its form stage (R154). -/
def serveLanePeek (ps : List Word) (room : Nat) (s : State) : Answer :=
  afterForm (formLanePeek ps) (fun a => readOut room (peekWords s a) s) s

/-- LANE_ZERO with its form stage (R153). -/
def serveLaneZero (ps : List Word) (_room : Nat) (s : State) : Answer :=
  afterForm (formLane ps) (fun l => done (setLane l (zeroLane (laneOf s l)) s)) s

/-- The command SLOT_EVENT. -/
def execSlotEvent (l : LaneId) (s : State) : Host.Outcome State Fault Refusal := .next (slotEvent l s)

/-- The command FRAME_COMPLETION. -/
def execFrameCompletion (l : LaneId) (s : State) : Host.Outcome State Fault Refusal := .next (frameCompletion l s)

end Sys2Proof.Machine
end

