-- ==== Sys2Proof/Machine/TimeBase.lean ====
section
/-! DEFINITION. The time base (05_the_time_base.md): the tick (R63), TIME_SET (R67), TIME_ADJUST (R68..R70), TIME_READ (R72). -/

namespace Sys2Proof.Machine

/-- A frame in transmission one REFCLK period older (R82, R88); it stops counting when its last word has left. -/
def ageFrame (f : Frame) : Frame := { f with elapsed := min (f.elapsed + 1) (frameTicks f) }

/-- The sweep timer one REFCLK period on (R35): every 65,536 ticks an expiry falls due. -/
def tickSweep (c : Classifier) : Classifier :=
  { c with
    sweepTimer := c.sweepTimer + 1
    sweepsDue := if c.sweepTimer = 0xFFFF then c.sweepsDue + 1 else c.sweepsDue }

/-- One REFCLK period (R63): TB counts, with the sweep timer and the frames in transmission (log entry 7). -/
def tick (s : State) : State :=
  mapLanes (fun _ x => { x with frame := x.frame.map ageFrame })
    (setClassifier (tickSweep s.classifier) (setTime { s.time with tb := s.time.tb + 1 } s))

/-- Every lane is IDLE (R67). -/
def allIdle (s : State) : Bool := (List.finRange 16).all fun l => decide ((laneOf s l).state = .idle)

/-- The flush of the SDL (R173). -/
def flushSdl (s : State) : State :=
  request (.schedFlushed (word s.scheduler.list.length)) (setScheduler { s.scheduler with list := [] } s)

/-- TIME_SET at the time base (R67). -/
def ownTimeSet (v : Tick) (s : State) : Answer :=
  if allIdle s then
    done (request (.timeChanged s.time.tb v .set) (flushSdl (setTime { tb := v, isSet := true } s)))
  else refuse .lanesActive s

/-- R68 check 2, R168: a pending entry that is not yet due would lie 2^31 or more ticks ahead (log entry 12). -/
def guardRefuses (delta : Tick) (s : State) : Bool :=
  delta.msb && s.scheduler.list.any fun e =>
    !atOrBefore e.due s.time.tb && decide (2 ^ 31 ≤ distance (s.time.tb + delta) e.due)

/-- The re-anchor of a lane: delta added to its next slot time, if it holds a grid (R69, R82). -/
def reanchor (delta : Tick) (x : Lane) : Lane :=
  if x.state = .idle then x else { x with nextSlot := x.nextSlot + delta }

/-- TIME_ADJUST at the time base, without the overdue request it sends at its end (R68, R69, R70). -/
def ownTimeAdjust (delta : Tick) (s : State) : Answer :=
  if s.time.isSet = false then refuse .noTime s
  else if guardRefuses delta s then refuse .tooFar s
  else
    done
      (request (.timeChanged s.time.tb (s.time.tb + delta) .adjust)
        (mapLanes (fun _ x => reanchor delta x) (setTime { s.time with tb := s.time.tb + delta } s)))

/-- The overdue request of an accepted TIME_ADJUST: it waits at the scheduler, which holds its list meanwhile (R70, R165). -/
def sendOverdue (s : State) : State := setScheduler { s.scheduler with overdue := s.scheduler.overdue + 1 } s

/-- An accepted adjust sends its overdue request (R70). -/
def withOverdue (a : Answer) : Answer :=
  if a.status = .ok then { a with state := sendOverdue a.state } else a

/-- TIME_SET with its form stage (R158). -/
def serveTimeSet (ps : List Word) (_room : Nat) (s : State) : Answer :=
  afterForm (formTimeSet ps) (fun v => ownTimeSet v s) s

/-- TIME_READ (R72, R160). -/
def serveTimeRead (ps : List Word) (room : Nat) (s : State) : Answer :=
  afterForm (formNone ps) (fun _ => readOut room (word s.time.isSet.toNat :: twoWords s.time.tb) s) s

/-- The command TB_TICK. -/
def execTbTick (s : State) : Host.Outcome State Fault Refusal := .next (tick s)

end Sys2Proof.Machine
end

