-- ==== Sys2Proof/Machine/Transport.lean ====
section
/-! DEFINITION. Lane transport control (07_lane_transport_control.md): START (R101, R102), HALT (R104), and the arrival of the
queued commands with the succession table (R106, R107). -/

namespace Sys2Proof.Machine

/-- The owner stage of START: the first failure of R101's checks 3 to 6. -/
def startFailure (x : Lane) (t : TimeBase) (anchor : Tick) : Option Status :=
  if t.isSet = false then some .noTime
  else if x.state ≠ .idle ∧ x.state ≠ .parked then some .active
  else if strictlyAfter anchor t.tb = false then some .past
  else if Config.horizon < distance t.tb anchor then some .tooFar
  else none

/-- An accepted START (R102): the parked unit released, the datum at TB, the grid at the anchor, the flags cleared. -/
def startLane (l : LaneId) (tb anchor : Tick) (x : Lane) : Lane × List Effect :=
  ({ x with
      state := .running, held := none, datum := tb, nextSlot := anchor, remainder := 0, last := .start, stopMode := none
      underrun := false, refused := false, overrun := false },
    releasesOf x.held.toList ++ stateNotice l x.state .running)

/-- START at the lane (R101, R102). -/
def ownStart (l : LaneId) (anchor : Tick) (s : State) : Answer :=
  match startFailure (laneOf s l) s.time anchor with
  | some st => refuse st s
  | none => done (updateLane l (startLane l s.time.tb anchor (laneOf s l)) s)

/-- HALT at the lane (R104). -/
def ownHalt (l : LaneId) (s : State) : Answer := done (updateLane l (haltLane l (laneOf s l)) s)

/-- The preceding command an accepted queued command becomes (R100). -/
def lastOf : Command → LastCommand
  | .run => .run
  | .hold => .hold
  | .step => .step
  | .seek => .seek
  | .cue => .cue
  | .stop _ => .stop

/-- The succession table (R107): the preceding command, then the arriving one. -/
def legalAfter (last : LastCommand) (c : LastCommand) : Bool :=
  match last, c with
  | .start, .hold => true
  | .start, .seek => true
  | .start, .cue => true
  | .start, .stop => true
  | .run, .hold => true
  | .run, .seek => true
  | .run, .cue => true
  | .run, .stop => true
  | .hold, .run => true
  | .hold, .step => true
  | .hold, .seek => true
  | .hold, .cue => true
  | .hold, .stop => true
  | .step, .run => true
  | .step, .step => true
  | .step, .seek => true
  | .step, .stop => true
  | .seek, .run => true
  | .seek, .hold => true
  | .seek, .stop => true
  | .cue, .run => true
  | .cue, .hold => true
  | .cue, .stop => true
  | _, _ => false

/-- The owner stage of a queued command's arrival: the first failure of R106's checks. -/
def arrivalFailure (x : Lane) (c : Command) : Option Status :=
  if x.state = .idle ∨ x.state = .parked then some .notActive
  else if legalAfter x.last (lastOf c) = false then some .order
  else if Config.commandPlaces ≤ x.commands.length then some .cmdFull
  else none

/-- The arrival of a queued command at the lane (R106). -/
def ownCommand (l : LaneId) (c : Command) (s : State) : Answer :=
  match arrivalFailure (laneOf s l) c with
  | some st => refuse st s
  | none =>
    { status := .queued, results := []
      state := setLane l { laneOf s l with commands := (laneOf s l).commands ++ [c], last := lastOf c } s }

/-- START with its form stage (R155). -/
def serveStart (ps : List Word) (_room : Nat) (s : State) : Answer :=
  afterForm (formStart ps) (fun a => ownStart a.1 a.2 s) s

/-- HALT with its form stage (R156). -/
def serveHalt (ps : List Word) (_room : Nat) (s : State) : Answer := afterForm (formLane ps) (fun l => ownHalt l s) s

/-- RUN, HOLD, STEP, SEEK or CUE with its form stage (R157). -/
def serveCommand (c : Command) (ps : List Word) (_room : Nat) (s : State) : Answer :=
  afterForm (formLane ps) (fun l => ownCommand l c s) s

/-- STOP with its form stage (R157). -/
def serveStop (ps : List Word) (_room : Nat) (s : State) : Answer :=
  afterForm (formStop ps) (fun a => ownCommand a.1 (.stop a.2) s) s

end Sys2Proof.Machine
end

