-- ==== Sys2Proof/Machine/Scheduler.lean ====
section
/-! DEFINITION. The directive scheduler (10_scheduled_directives.md): AT (R166..R168), SDL_CANCEL and SDL_READ (R174), expiry
(R169, R170) and the overdue walk (R171). -/

namespace Sys2Proof.Machine

/-! ## Admission -/

/-- The list is held for a TIME_ADJUST whose overdue request is not yet served (R68, R165). -/
def listHeld (s : State) : Bool := decide (s.scheduler.overdue ≠ 0)

/-- An expiry is in service (R165). -/
def inService (s : State) : Bool := s.scheduler.service.isSome

/-- AT and SDL_CANCEL wait at the scheduler: the list is held, or an expiry is in service (R68, R165). -/
def listBusy (s : State) : Bool := listHeld s || inService s

/-- R166: the first failure of AT's checks 1 to 8. -/
def atFailure (a : AtArgs) (s : State) : Option Status :=
  if s.time.isSet = false then some .noTime
  else if strictlyAfter a.due s.time.tb = false then some .past
  else if Config.horizon < distance s.time.tb a.due then some .tooFar
  else
    match directiveOf (envelopeCode a.envelope) with
    | none => some .notSchedulable
    | some d =>
      if schedulable d = false then some .notSchedulable
      else if envelopeCount a.envelope ≠ a.params.length then some .badParam
      else
        match embeddedFailure d a.params with
        | some st => some st
        | none => if Config.sdlEntries ≤ s.scheduler.list.length then some .sdlFull else none

/-- The serial after one, 65,534 being followed by 0 (R167). -/
def serialAfter (n : Word) : Word := if n.toNat = Config.lastSerial then 0 else n + 1

/-- A pending entry holds the serial. -/
def serialHeld (n : Word) (list : List SdlEntry) : Bool := list.any fun e => e.serial == n

/-- The first candidate from n on that no pending entry holds, looking at `tries` candidates (R167). -/
def freeSerial : Nat → Word → List SdlEntry → Word
  | 0, n, _ => n
  | tries + 1, n, list => if serialHeld n list then freeSerial tries (serialAfter n) list else n

/-- The serial of the next admission: found within 33 candidates, since at most 32 are held (R167). -/
def nextSerialFor (s : State) : Word := freeSerial 33 s.scheduler.nextSerial s.scheduler.list

/-- Distance from TB to a due time, an entry already due counting as 0 (R168, log entry 12). -/
def dueDistance (tb due : Tick) : Nat := if atOrBefore due tb then 0 else distance tb due

/-- Insertion after every entry whose distance from TB is at most the new one's (R168). -/
def insertSdl (tb : Tick) (x : SdlEntry) : List SdlEntry → List SdlEntry
  | [] => [x]
  | e :: es =>
    if dueDistance tb e.due ≤ dueDistance tb x.due then e :: insertSdl tb x es else x :: e :: es

/-- An AT's entry admitted (R167, R168). -/
def admitAt (a : AtArgs) (d : Directive) (s : State) : State :=
  setScheduler
    { s.scheduler with
      list := insertSdl s.time.tb { serial := nextSerialFor s, due := a.due, code := d, params := a.params } s.scheduler.list
      nextSerial := serialAfter (nextSerialFor s) }
    s

/-- AT at the scheduler (R166): the room stage is its last check. -/
def ownAt (a : AtArgs) (room : Nat) (s : State) : Answer :=
  match atFailure a s with
  | some st => refuse st s
  | none =>
    match directiveOf (envelopeCode a.envelope) with
    | none => refuse .notSchedulable s
    | some d =>
      if room = 0 then refuse .noRoom s
      else { status := .scheduled, results := [nextSerialFor s], state := admitAt a d s }

/-! ## Cancelling and reading -/

/-- SDL_CANCEL at the scheduler (R162, R174): 0xFFFF means every entry. -/
def ownCancel (n : Word) (room : Nat) (s : State) : Answer :=
  if n = 0xFFFF then
    if room = 0 then refuse .noRoom s
    else
      { status := .ok, results := [word s.scheduler.list.length]
        state := setScheduler { s.scheduler with list := [] } s }
  else if serialHeld n s.scheduler.list = false then refuse .noEntry s
  else if room = 0 then refuse .noRoom s
  else
    { status := .ok, results := [1]
      state := setScheduler { s.scheduler with list := s.scheduler.list.filter fun e => e.serial != n } s }

/-- The five words of an entry in SDL_READ (R163). -/
def sdlWords (e : SdlEntry) : List Word :=
  [e.serial, highWord e.due, lowWord e.due, (directiveCode e.code ++ BitVec.ofNat 8 e.params.length : BitVec 16),
    e.params.headD 0]

/-- SDL_READ's words (R163). -/
def sdlReadWords (start count : Nat) (s : State) : List Word :=
  ((s.scheduler.list.drop start).take count).flatMap sdlWords

/-- AT with its form stage (R161). -/
def serveAt (ps : List Word) (room : Nat) (s : State) : Answer := afterForm (formAt ps) (fun a => ownAt a room s) s

/-- SDL_CANCEL with its form stage (R162). -/
def serveCancel (ps : List Word) (room : Nat) (s : State) : Answer :=
  afterForm (formOne ps) (fun n => ownCancel n room s) s

/-- SDL_READ with its form stage (R163). -/
def serveSdlRead (ps : List Word) (room : Nat) (s : State) : Answer :=
  afterForm (formSdlRead ps) (fun a => readOut room (sdlReadWords a.1 a.2 s) s) s

/-! ## Expiry -/

/-- The owner stage of an expired directive (R141, R170); its form stage was passed at admission. A TIME_ADJUST's overdue
request is sent after SCHED_DONE. -/
def serveScheduled (d : Directive) (ps : List Word) (s : State) : Answer :=
  match d with
  | .flowSet => afterForm (formFlowSet ps) (fun a => ownFlowSet a s) s
  | .flowClear => afterForm (formFlow ps) (fun f => ownFlowClear f s) s
  | .laneSource => afterForm (formLaneSource ps) (fun a => ownLaneSource a s) s
  | .start => afterForm (formStart ps) (fun a => ownStart a.1 a.2 s) s
  | .halt => afterForm (formLane ps) (fun l => ownHalt l s) s
  | .run => afterForm (formLane ps) (fun l => ownCommand l .run s) s
  | .hold => afterForm (formLane ps) (fun l => ownCommand l .hold s) s
  | .step => afterForm (formLane ps) (fun l => ownCommand l .step s) s
  | .seek => afterForm (formLane ps) (fun l => ownCommand l .seek s) s
  | .cue => afterForm (formLane ps) (fun l => ownCommand l .cue s) s
  | .stop => afterForm (formStop ps) (fun a => ownCommand a.1 (.stop a.2) s) s
  | .timeAdjust => afterForm (formTimeAdjust ps) (fun v => ownTimeAdjust v s) s
  | _ => refuse .notSchedulable s

/-- When the owner of the next entry to leave the list answers (log entry 22). -/
def nextAnswer (s : State) : Moment := s.surroundings.answers.headD .atOnce

/-- The head entry leaves the list and its expiry is in service, its directive issued to its owner (R169 steps 1 and 2). -/
def takeHead (late : Bool) (s : State) : State :=
  match s.scheduler.list with
  | [] => s
  | e :: rest =>
    setSurroundings { s.surroundings with answers := s.surroundings.answers.tail }
      (setScheduler { s.scheduler with list := rest, service := some { entry := e, late := late } } s)

/-- The owner's answer to an expired entry, whose expiry is in service no longer. -/
def ownerAnswer (e : SdlEntry) (s : State) : Answer :=
  serveScheduled e.code e.params (setScheduler { s.scheduler with service := none } s)

/-- The end of an expiry: the owner answers and SCHED_DONE is requested (R169 steps 2 and 3). -/
def endExpiry (x : ExpiryInService) (s : State) : State :=
  request (.schedDone x.entry.serial x.entry.code (ownerAnswer x.entry s).status x.late) (ownerAnswer x.entry s).state

/-- The expired entry is a TIME_ADJUST that its owner accepts, so that an overdue request comes with its answer (R170). -/
def adjustAccepted (e : SdlEntry) (s : State) : Bool :=
  decide (e.code = .timeAdjust) && decide ((ownerAnswer e s).status = .ok)

/-- The head entry, when it is due (R169). -/
def dueHead (s : State) : Option SdlEntry := s.scheduler.list.head?.filter fun e => atOrBefore e.due s.time.tb

/-- The end of the overdue requests waiting, and of their hold (R68, R171): the walk of one leaves no due head for the next (log entry
19). -/
def endOverdue (s : State) : State := setScheduler { s.scheduler with overdue := 0 } s

/-- The overdue walk from where it stands (R171): entries expire from the head with late flag 1 while the head is at or before TB. It
stops short at the first whose owner answers later (R165). An accepted TIME_ADJUST among them continues the same walk. Every expiry
removes one entry, so the list's length bounds the walk. -/
def overdueWalk : Nat → State → State
  | 0, s => endOverdue s
  | n + 1, s =>
    match dueHead s, nextAnswer s with
    | none, _ => endOverdue s
    | some _, .later => takeHead true s
    | some e, .atOnce => overdueWalk n (endExpiry { entry := e, late := true } (takeHead true s))

/-- The overdue walk over the list as it stands. -/
def walkOn (s : State) : State := overdueWalk s.scheduler.list.length s

/-- The end of an expiry outside the walk, and the overdue requests served at it: an accepted TIME_ADJUST's own, and those of other
TIME_ADJUSTs that have waited for it (R165, R170). -/
def finishExpiry (x : ExpiryInService) (s : State) : State :=
  let t := if adjustAccepted x.entry s then sendOverdue (endExpiry x s) else endExpiry x s
  if listHeld t then walkOn t else t

/-- The scheduler is free to look at the head: the list is not held and no expiry is in service (R165, R169). -/
def mayExpire (s : State) : Bool := !listBusy s

/-- The scheduler looks at the head (R169): a due one expires with late flag 0, and when its expiry ends the scheduler looks at the new
head at once. It stops at the first owner that answers later (R165). Every expiry removes one entry, so the list's length bounds
the run. -/
def expireDue : Nat → State → State
  | 0, s => s
  | n + 1, s =>
    if mayExpire s then
      match dueHead s, nextAnswer s with
      | none, _ => s
      | some _, .later => takeHead false s
      | some e, .atOnce => expireDue n (finishExpiry { entry := e, late := false } (takeHead false s))
    else s

/-- The scheduler's look at the list as it stands (R169). -/
def lookAtHead (s : State) : State := expireDue s.scheduler.list.length s

/-- EXPIRY (R165, R169): the due head of a list that is not held leaves it, and its owner answers at once or later; with its expiry
in service, the owner answers now. Whenever an expiry ends, a due new head follows at once. An expiry of the overdue walk is
ended by OVERDUE_REQUEST. -/
def expiry (s : State) : State :=
  match s.scheduler.service with
  | some x => if x.late then s else lookAtHead (finishExpiry x s)
  | none => lookAtHead s

/-- OVERDUE_REQUEST (R70, R165, R171): the walk, and the end of the request's hold; with an expiry of the walk in service, its owner
answers and the walk goes on. It waits while another expiry is in service. Without a request there is no event. -/
def overdueRequest (s : State) : State :=
  match s.scheduler.service with
  | some x => if x.late then walkOn (endExpiry x s) else s
  | none => if listHeld s then walkOn s else s

/-- The scheduler once the expiry in service, and the walk it may belong to, have ended, every owner answering at once (R165, R175). -/
def afterService (s : State) : State :=
  match s.scheduler.service with
  | some x =>
    setSurroundings s.surroundings
      ((if x.late then overdueRequest else expiry)
        (setSurroundings { s.surroundings with answers := [] } s))
  | none => s

/-- What a refused TIME_ADJUST leaves: its guard's hold ends without a walk, and a due head expires at once (R171). -/
def afterGuard (a : Answer) : Answer := if a.status = .tooFar then { a with state := lookAtHead a.state } else a

/-- TIME_ADJUST with its form stage (R159). -/
def serveTimeAdjust (ps : List Word) (_room : Nat) (s : State) : Answer :=
  afterForm (formTimeAdjust ps) (fun d => afterGuard (withOverdue (ownTimeAdjust d s))) s

/-- The command EXPIRY. -/
def execExpiry (s : State) : Host.Outcome State Fault Refusal := .next (expiry s)

/-- The command OVERDUE_REQUEST. -/
def execOverdueRequest (s : State) : Host.Outcome State Fault Refusal := .next (overdueRequest s)

end Sys2Proof.Machine
end

