-- ==== Sys2Proof/Machine/Directives.lean ====
section
/-! DEFINITION. The directive commands (09_directive_reference.md): each issues its directive to its owner and records the
answer (R129, R140). The device directives the control unit owns itself stand here whole (R142..R144). -/

namespace Sys2Proof.Machine

/-! ## Device directives of the control unit and the report generator -/

/-- ECHO (R142). -/
def serveEcho (ps : List Word) (room : Nat) (s : State) : Answer := readOut room ps s

/-- The group address as UNIT_READ shows it, 0 when none (R143). -/
def groupByte (c : Control) : BitVec 8 := c.group.getD 0

/-- What UNIT_READ asks for, in word order, one list of words for each request (R143). Words of one owner in one request stand together:
those R143 gives together, the free figures of the store (R49), and the unknown-flow counts of the classifier (R22). The three
owners of word 3 give a bit each. -/
def unitFigures (s : State) : List (List Word) :=
  [[Config.partCode, Config.revision, (groupByte s.control ++ s.control.unitAddr.setWidth 8 : BitVec 16)],
    [word (s.time.isSet.toNat * 32768)], [word (s.store.fullFlag.toNat * 16384)],
    [word (s.control.overrunFlag.toNat * 8192)], [word s.store.freeCells, word s.store.freeRecords],
    [word s.scheduler.list.length], [word (s.reports.reserved.toNat * 32768 + s.reports.queue.length)],
    [word s.control.intake.length]] ++
  ([s.control.counters.notMine, s.control.counters.twins, s.control.counters.retries, s.control.counters.retriesDropped,
    s.control.counters.overrun].map twoWords) ++
  [twoWords s.classifier.unknown.a ++ twoWords s.classifier.unknown.b, [maskWord s.reports.mask], [s.reports.suppressed]]

/-- The number of the depth query at the directive scheduler among those requests. -/
def depthQuery : Nat := 5

/-- The 25 words of UNIT_READ from the figures given: the three bits of word 3 joined (R143). -/
def unitResult : List Word → List Word
  | code :: revision :: address :: time :: store :: overrun :: rest =>
    code :: revision :: address :: (time ||| store ||| overrun) :: rest
  | given => given

/-- The owners UNIT_READ asks in turn (R143). Its depth query waits while an expiry is in service (R165, log entry 6). -/
def unitOwners : Owners :=
  { count := 16
    waits := fun k s => k == depthQuery && inService s
    words := fun k s => (unitFigures s).getD k []
    effect := fun _ s => s
    result := unitResult }

/-- The owners PORT_READ asks in turn (R146). -/
def portReadOwners (p : PortId) : Owners :=
  { count := 2
    waits := fun _ _ => false
    words := fun k s => portFigure p s k
    effect := fun _ s => s
    result := fun given => given }

/-- The owners PORT_ZERO asks in turn (R20, R146). -/
def portZeroOwners (p : PortId) : Owners :=
  { count := 2
    waits := fun _ _ => false
    words := fun _ _ => []
    effect := zeroOwner p
    result := fun given => given }

/-- GROUP_SET (R135, R144). -/
def serveGroupSet (ps : List Word) (_room : Nat) (s : State) : Answer :=
  afterForm (formGroup ps) (fun g => done (setControl { s.control with group := g } s)) s

/-- NOTICE_MASK at the report generator (R184): bits 7..0 replaced, bits 15..8 ignored (R144). -/
def ownNoticeMask (w : Word) (room : Nat) (s : State) : Answer :=
  if room = 0 then refuse .noRoom s
  else
    { status := .ok, results := [maskWord (w.extractLsb' 0 8)]
      state := setReports { s.reports with mask := w.extractLsb' 0 8 } s }

/-- NOTICE_MASK with its form stage (R144). -/
def serveNoticeMask (ps : List Word) (room : Nat) (s : State) : Answer :=
  afterForm (formOne ps) (fun w => ownNoticeMask w room s) s

/-! ## The commands -/

/-- A directive the scheduler has a part in: while the scheduler makes it wait, nothing happens yet (R68, R165, log entry 6). A form
failure never reaches the scheduler and is answered at once (R140). -/
def issueUnless {α : Type} (waits : Bool) (form : List Word → Except Status α) (d : Directive) (ps : List Word)
    (serve : List Word → Nat → State → Answer) (s : State) : State :=
  if waits && (formFailure (form ps)).isNone then s else issueDirective d ps serve s

/-- UNKNOWN_CODE (R5): a code outside the table is answered UNKNOWN with no effect. A code of the table is not this row's
command, and nothing happens. -/
def execUnknownCode (code : BitVec 8) (ps : List Word) (s : State) : Host.Outcome State Fault Refusal :=
  .next (if (directiveOf code).isSome then s
    else issue { code := code, params := ps } (fun _ t => refuse .unknown t) s)

/-- The command ECHO. -/
def execEcho (ps : List Word) (s : State) : Host.Outcome State Fault Refusal := .next (issueDirective .echo ps serveEcho s)

/-- The command UNIT_READ. -/
def execUnitRead (ps : List Word) (s : State) : Host.Outcome State Fault Refusal :=
  .next (inquireDirective .unitRead formNone (fun _ => unitOwners) ps s)

/-- The command GROUP_SET. -/
def execGroupSet (ps : List Word) (s : State) : Host.Outcome State Fault Refusal :=
  .next (issueDirective .groupSet ps serveGroupSet s)

/-- The command NOTICE_MASK. -/
def execNoticeMask (ps : List Word) (s : State) : Host.Outcome State Fault Refusal :=
  .next (issueDirective .noticeMask ps serveNoticeMask s)

/-- The command PORT_READ. -/
def execPortRead (ps : List Word) (s : State) : Host.Outcome State Fault Refusal :=
  .next (inquireDirective .portRead formPort portReadOwners ps s)

/-- The command PORT_ZERO. -/
def execPortZero (ps : List Word) (s : State) : Host.Outcome State Fault Refusal :=
  .next (inquireDirective .portZero formPort portZeroOwners ps s)

/-- The command FLOW_SET. -/
def execFlowSet (ps : List Word) (s : State) : Host.Outcome State Fault Refusal :=
  .next (issueDirective .flowSet ps serveFlowSet s)

/-- The command FLOW_CLEAR. -/
def execFlowClear (ps : List Word) (s : State) : Host.Outcome State Fault Refusal :=
  .next (issueDirective .flowClear ps serveFlowClear s)

/-- The command FLOW_READ. -/
def execFlowRead (ps : List Word) (s : State) : Host.Outcome State Fault Refusal :=
  .next (issueDirective .flowRead ps serveFlowRead s)

/-- The command FLOW_LIST. -/
def execFlowList (ps : List Word) (s : State) : Host.Outcome State Fault Refusal :=
  .next (issueDirective .flowList ps serveFlowList s)

/-- The command FLOW_ZERO. -/
def execFlowZero (ps : List Word) (s : State) : Host.Outcome State Fault Refusal :=
  .next (issueDirective .flowZero ps serveFlowZero s)

/-- The command LANE_SET. -/
def execLaneSet (ps : List Word) (s : State) : Host.Outcome State Fault Refusal :=
  .next (issueDirective .laneSet ps serveLaneSet s)

/-- The command LANE_SOURCE. -/
def execLaneSource (ps : List Word) (s : State) : Host.Outcome State Fault Refusal :=
  .next (issueDirective .laneSource ps serveLaneSource s)

/-- The command LANE_READ. -/
def execLaneRead (ps : List Word) (s : State) : Host.Outcome State Fault Refusal :=
  .next (issueDirective .laneRead ps serveLaneRead s)

/-- The command LANE_PEEK. -/
def execLanePeek (ps : List Word) (s : State) : Host.Outcome State Fault Refusal :=
  .next (issueDirective .lanePeek ps serveLanePeek s)

/-- The command LANE_ZERO. -/
def execLaneZero (ps : List Word) (s : State) : Host.Outcome State Fault Refusal :=
  .next (issueDirective .laneZero ps serveLaneZero s)

/-- The command START. -/
def execStart (ps : List Word) (s : State) : Host.Outcome State Fault Refusal :=
  .next (issueDirective .start ps serveStart s)

/-- The command HALT. -/
def execHalt (ps : List Word) (s : State) : Host.Outcome State Fault Refusal :=
  .next (issueDirective .halt ps serveHalt s)

/-- The command RUN. -/
def execRun (ps : List Word) (s : State) : Host.Outcome State Fault Refusal :=
  .next (issueDirective .run ps (serveCommand .run) s)

/-- The command HOLD. -/
def execHold (ps : List Word) (s : State) : Host.Outcome State Fault Refusal :=
  .next (issueDirective .hold ps (serveCommand .hold) s)

/-- The command STEP. -/
def execStep (ps : List Word) (s : State) : Host.Outcome State Fault Refusal :=
  .next (issueDirective .step ps (serveCommand .step) s)

/-- The command SEEK. -/
def execSeek (ps : List Word) (s : State) : Host.Outcome State Fault Refusal :=
  .next (issueDirective .seek ps (serveCommand .seek) s)

/-- The command CUE. -/
def execCue (ps : List Word) (s : State) : Host.Outcome State Fault Refusal :=
  .next (issueDirective .cue ps (serveCommand .cue) s)

/-- The command STOP. -/
def execStop (ps : List Word) (s : State) : Host.Outcome State Fault Refusal :=
  .next (issueDirective .stop ps serveStop s)

/-- The command TIME_SET. -/
def execTimeSet (ps : List Word) (s : State) : Host.Outcome State Fault Refusal :=
  .next (issueDirective .timeSet ps serveTimeSet s)

/-- The command TIME_ADJUST. -/
def execTimeAdjust (ps : List Word) (s : State) : Host.Outcome State Fault Refusal :=
  .next (issueDirective .timeAdjust ps serveTimeAdjust s)

/-- The command TIME_READ. -/
def execTimeRead (ps : List Word) (s : State) : Host.Outcome State Fault Refusal :=
  .next (issueDirective .timeRead ps serveTimeRead s)

/-- The command AT. -/
def execSchedAt (ps : List Word) (s : State) : Host.Outcome State Fault Refusal :=
  .next (issueUnless (listBusy s) formAt .schedAt ps serveAt s)

/-- The command SDL_CANCEL. -/
def execSdlCancel (ps : List Word) (s : State) : Host.Outcome State Fault Refusal :=
  .next (issueUnless (listBusy s) formOne .sdlCancel ps serveCancel s)

/-- The command SDL_CANCEL_ALL. -/
def execSdlCancelAll (s : State) : Host.Outcome State Fault Refusal :=
  .next (issueUnless (listBusy s) formOne .sdlCancel [0xFFFF] serveCancel s)

/-- The command SDL_READ. -/
def execSdlRead (ps : List Word) (s : State) : Host.Outcome State Fault Refusal :=
  .next (issueUnless (inService s) formSdlRead .sdlRead ps serveSdlRead s)

end Sys2Proof.Machine
end

