-- ==== Sys2Proof/Machine/Reports.lean ====
section
/-! DEFINITION. The report generator's own events (11_reports_and_notices.md): a notice request served (R180), the completion of
a report and RPT_HOLD (R183). -/

namespace Sys2Proof.Machine

/-- The blocks that raise notices (R185). -/
inductive Requester where
  | port (p : PortId)
  | classifier
  | store
  | lane (l : LaneId)
  | scheduler
  | control
  | timeBase
  deriving DecidableEq, Repr

/-- The block that raises a notice (R185). -/
def requesterOf : Notice → Requester
  | .portUp p => .port p
  | .portDown p => .port p
  | .portErrors p => .port p
  | .flowSilent _ => .classifier
  | .flowResumed _ => .classifier
  | .flowGap _ _ => .classifier
  | .flowResync _ _ => .classifier
  | .pathDown _ _ => .classifier
  | .pathUp _ _ => .classifier
  | .storeFull _ _ => .store
  | .storeRecovered _ _ => .store
  | .laneState l _ _ => .lane l
  | .laneUnderrun l => .lane l
  | .laneRefused l _ => .lane l
  | .laneOverrun l => .lane l
  | .schedDone _ _ _ _ => .scheduler
  | .schedFlushed _ => .scheduler
  | .controlOverrun => .control
  | .timeChanged _ _ _ => .timeBase
  | .unitRestarted _ => .control

/-- An earlier request of the same block is still waiting: a block's requests are judged in order (R180). -/
def mustWait (n : Notice) (waiting : List Notice) : Bool :=
  (waiting.takeWhile fun w => w != n).any fun w => decide (requesterOf w = requesterOf n)

/-- NOTICE_REQUEST (R176, R180): the request leaves the waiting list and is served. Requests of different blocks may be served
in any order; one that must wait its turn is not served yet (log entry 3). -/
def noticeRequest (n : Notice) (s : State) : State :=
  if mustWait n s.requests then s else serveNotice n (setRequests (s.requests.erase n) s)

/-- REPORT_COMPLETION (R183): the report in transmission leaves the queue, and the next head begins. The completion of a report
that RESTART FULL removed takes nothing from the queue (R187). With no report in transmission there is no event. -/
def reportCompletion (s : State) : State :=
  match s.reports.link with
  | .quiet => s
  | .head => setReports (beginTransmission { s.reports with queue := s.reports.queue.tail, link := .quiet }) s
  | .detached _ => setReports (beginTransmission { s.reports with link := .quiet }) s

/-- RPT_HOLD_CHANGE (R183): a negation lets the head begin; an assertion stops no report in transmission. -/
def rptHoldChange (asserted : Bool) (s : State) : State :=
  setReports (beginTransmission { s.reports with hold := asserted }) s

/-- The words of the report in transmission on RPT (R183). -/
def rptWords (s : State) : List Word :=
  match s.reports.link with
  | .quiet => []
  | .head =>
    match s.reports.queue with
    | [] => []
    | r :: _ => reportWords r
  | .detached r => reportWords r

/-- The command NOTICE_REQUEST. -/
def execNoticeRequest (n : Notice) (s : State) : Host.Outcome State Fault Refusal := .next (noticeRequest n s)

/-- The command REPORT_COMPLETION. -/
def execReportCompletion (s : State) : Host.Outcome State Fault Refusal := .next (reportCompletion s)

/-- The command RPT_HOLD_CHANGE. -/
def execRptHoldChange (asserted : Bool) (s : State) : Host.Outcome State Fault Refusal := .next (rptHoldChange asserted s)

end Sys2Proof.Machine
end

