-- ==== Sys2Proof/Machine/Reset.lean ====
section
/-! DEFINITION. The three resets: HARD_RESET (R139 and the reset tables of every chapter), RESTART with scope LANES (R136) and
with scope FULL (R137). -/

namespace Sys2Proof.Machine

/-! ## Hard reset -/

/-- The report generator at the end of hard reset: emptied, then UNIT_RESTARTED with cause HARD admitted with sequence 0
(R186, R187). The RPT_HOLD pin keeps its level. DESIGN CHOICE: the PTS is 0, where R73 allows 0 or a value just above it (log entry
25). -/
def hardResetReports (unit : BitVec 6) (hold : Bool) : Reports :=
  beginTransmission
    { queue := [{ kind := .notice, seq := 0, pts := 0
                  payload := stampUnset false (noticePayload unit 0 (.unitRestarted .hard)) }]
      seq := 1, mask := 0xFF, suppressed := 0, reserved := false, link := .quiet, hold := hold }

/-- The state after hard reset with the straps sampled. The queue of commands waiting and the surroundings' choices are the model's
and stay (log entries 1, 9, 22, 26 and 27). DESIGN CHOICE: control blocks offered and notices requested before the reset and not yet
served are dropped with it (log entry 29). -/
def hardReset (straps : BitVec 6) (s : State) : State :=
  { ports := ⟨resetPort, resetPort⟩
    classifier := resetClassifier
    store := emptyStore
    lanes := Vector.replicate 16 resetLane
    time := resetTime
    scheduler := resetScheduler
    control := resetControl straps
    reports := hardResetReports straps s.reports.hold
    offers := []
    requests := []
    surroundings := s.surroundings
    pending := s.pending }

/-! ## The lanes and the store (R62, R120, R136, R137) -/

/-- A lane after RESTART FULL: also its configuration, counters and flags at their defaults (R97, R120). -/
def fullyRestartedLane (x : Lane) : Lane := zeroLane { restartedLane x with config := defaultConfig }

/-- A lane after a RESTART (R97, R120). -/
def laneAfterRestart : RestartScope → Lane → Lane
  | .lanes, x => restartedLane x
  | .full, x => fullyRestartedLane x

/-- One lane's restart, its releases made (R120). -/
def restartLane (scope : RestartScope) (s : State) (l : LaneId) : State :=
  applyEffects (restartReleases (laneOf s l)) (setLane l (laneAfterRestart scope (laneOf s l)) s)

/-- The lanes that serve a RESTART in this step, of those that have not yet answered (log entry 27). -/
def turnOf (r : RestartInProgress) (s : State) : List LaneId :=
  r.waiting.filter fun l => (s.surroundings.restarts.headD r.waiting).contains l

/-- One step of a RESTART: the lanes whose turn it is serve it, the others go on as they were (R62, R136, R137: independently). DESIGN
CHOICE: within one step in ascending number; it shows in the figures of a STORE_RECOVERED requested on the way (log entries 24 and
27). -/
def restartLanes (r : RestartInProgress) (s : State) : State :=
  let u := (turnOf r s).foldl (restartLane r.scope) s
  setSurroundings { s.surroundings with restarts := s.surroundings.restarts.tail }
    (setControl
      { s.control with restart := some { r with waiting := r.waiting.filter fun l => !(turnOf r s).contains l } } u)

/-- A lane that holds no block (R48). -/
def holdsNothing (x : Lane) : Bool := x.queue.isEmpty && x.held.isNone && (x.frame.bind (·.block)).isNone

/-- The store's own restart, when every lane has answered: it finds itself empty and clears its flag (R62). DESIGN CHOICE: where a lane
that an expired START has run again meanwhile holds a block, the store keeps what is held (log entry 27). -/
def restartStore (s : State) : State :=
  if (List.finRange 16).all fun l => holdsNothing (laneOf s l) then setStore emptyStore s
  else setStore { s.store with fullFlag := false } s

/-! ## RESTART FULL -/

/-- The directive scheduler restarted, after any expiry in service (R175). DESIGN CHOICE: of the blocks of step 1 of R137 it comes
first, so that no expired START runs a lane again (log entry 27). -/
def restartScheduler (s : State) : State := setScheduler resetScheduler (afterService s)

/-- The ports, the classifier and the time base restarted (R21, R46, R73). DESIGN CHOICE: of the blocks of step 1 of R137 they come
last, so that a lane that has not yet answered meets the TB that its slot grid was made for (R65, log entry 27). -/
def restartBeside (s : State) : State :=
  setTime resetTime (setClassifier resetClassifier { s with ports := ⟨restartPort s.ports.a, restartPort s.ports.b⟩ })

/-- The notice requests made before the report generator's restart are served before it. DESIGN CHOICE (log entry 11): after the time
base's restart, so with its TB and TIME_UNSET set, and in the order in which they were requested, where R176 lets requests of
different blocks be served in any order. Both show on RPT when the first of them admitted begins transmission and completes
detached (R137, R182, R187). -/
def drainRequests (s : State) : State := setRequests [] (s.requests.foldl (fun t n => serveNotice n t) s)

/-- The transmission after RESTART FULL: a report going out completes, its entry removed with the others (R187). -/
def detachedLink (r : Reports) : RptLink :=
  match r.link, r.queue with
  | .head, head :: _ => .detached head
  | .head, [] => .quiet
  | .detached x, _ => .detached x
  | .quiet, _ => .quiet

/-- The report generator emptied at RESTART FULL, its sequence counter kept (R187). -/
def emptiedReports (r : Reports) : Reports :=
  { r with queue := [], mask := 0xFF, suppressed := 0, reserved := false, link := detachedLink r }

/-- The wanted response admitted first (R137 step 5). -/
def pushResponse (response : Option (List Word)) (s : State) : State :=
  match response with
  | some payload => pushReport .response payload s
  | none => s

/-- Step 5 of R137: the report generator's restart, with the response when one is wanted, then UNIT_RESTARTED. -/
def restartReports (response : Option (List Word)) (s : State) : State :=
  admitNotice (.unitRestarted .full) (pushResponse response (setReports (emptiedReports s.reports) s))

/-- Steps 2 to 4 of R137: the control unit after the restart, its cache holding the restart's entry alone. -/
def restartedControl (c : Control) (cache : List CacheEntry) (answer : ResultEntry) : Control :=
  { c with
    group := none, intake := [], execution := none, restart := none, inquiry := none, cache := cache
    counters := zeroControlCounters, overrunFlag := false, lastAnswer := some answer }

/-- RESTART's own entry: OK with no result words (R137 step 3). -/
def restartEntry : ResultEntry := { code := directiveCode .restart, status := .ok, results := [] }

/-- The response of the block that carries RESTART FULL (R137 step 3): COMPLETE, the directives after it NOT_RUN. -/
def restartResponse (c : Control) (b : IntakeEntry) (x : Execution) : List Word :=
  responsePayload c.unitAddr b .complete (x.entries ++ [restartEntry] ++ x.todo.tail.map notRunEntry)

/-- The end of RESTART FULL (R137), every lane having answered: ports, classifier, time base and store, then the notices that wait,
then the control unit and the report generator. Issued alone there is no block to answer (log entry 5). The response and
UNIT_RESTARTED carry a PTS of 0 (log entry 25). -/
def endRestartFull (s : State) : State :=
  let s1 := drainRequests (restartStore (restartBeside s))
  match s.control.execution, s.control.intake with
  | some x, b :: _ =>
    let payload := restartResponse s.control b x
    let entry : CacheEntry := { origin := b.origin, seq := b.seq, port := b.port, sweep := 0, response := payload }
    restartReports (if replyWanted b.payload then some payload else none)
      (setControl (restartedControl s.control [entry] restartEntry) s1)
  | _, _ => restartReports none (setControl (restartedControl s.control [] restartEntry) s1)

/-! ## RESTART -/

/-- The RESTART in progress, begun if none is (R136, R137). -/
def beginRestart (scope : RestartScope) (s : State) : State :=
  match s.control.restart with
  | some _ => s
  | none =>
    let s1 := match scope with
      | .lanes => s
      | .full => restartScheduler s
    setControl { s1.control with restart := some { scope := scope, waiting := List.finRange 16 } } s1

/-- The end of a RESTART, every lane having answered. -/
def endRestart (scope : RestartScope) (s : State) : State :=
  let s1 := setControl { s.control with restart := none } s
  match scope with
  | .lanes => conclude restartEntry (request (.unitRestarted .lanes) (restartStore s1))
  | .full => endRestartFull s1

/-- One step of a RESTART: begun if it is not, the lanes whose turn it is served, and ended when every lane has answered. -/
def advanceRestart (scope : RestartScope) (s : State) : State :=
  match (beginRestart scope s).control.restart with
  | none => s
  | some r =>
    let t := restartLanes r (beginRestart scope s)
    match t.control.restart with
    | some { waiting := _ :: _, .. } => t
    | _ => endRestart scope t

/-- RESTART with a scope as the next directive of the block in execution, or alone. While lanes have not yet answered, the command
comes again (R62, R136, R137, log entry 27). -/
def issueRestart (scope : RestartScope) (s : State) : State :=
  if issuable (restartEnvelope scope) s then advanceRestart scope s else s

/-- The command HARD_RESET. -/
def execHardReset (straps : BitVec 6) (s : State) : Host.Outcome State Fault Refusal := .next (hardReset straps s)

/-- The command RESTART_LANES: RESTART with any parameters; with the single parameter 2, which is RESTART_FULL's, it acts as
that (log entry 15). Any other parameters than 1 and 2 are answered BAD_PARAM (R136, R145). -/
def execRestartLanes (ps : List Word) (s : State) : Host.Outcome State Fault Refusal :=
  .next
    (match formRestart ps with
      | .ok scope => issueRestart scope s
      | .error st => issueDirective .restart ps (fun _ _ t => refuse st t) s)

/-- The command RESTART_FULL. -/
def execRestartFull (s : State) : Host.Outcome State Fault Refusal := .next (issueRestart .full s)

end Sys2Proof.Machine
end

