-- ==== Sys2Proof/Machine/Dispatch.lean ====
section
/-! DEFINITION. The dispatch of a command to its meaning, one arm per row of spec/opcode_table.json. -/

namespace Sys2Proof.Machine

def exec (i : Instr) (s : State) : Host.Outcome State Fault Refusal :=
  match i with
  | .hardReset straps => Sys2Proof.Machine.execHardReset straps s
  | .linkGain port => Sys2Proof.Machine.execLinkGain port s
  | .linkLoss port => Sys2Proof.Machine.execLinkLoss port s
  | .blockStart port => Sys2Proof.Machine.execBlockStart port s
  | .blockComplete port words => Sys2Proof.Machine.execBlockComplete port words s
  | .framingFault port => Sys2Proof.Machine.execFramingFault port s
  | .take => Sys2Proof.Machine.execTake s
  | .watchSweep => Sys2Proof.Machine.execWatchSweep s
  | .slotEvent lane => Sys2Proof.Machine.execSlotEvent lane s
  | .frameCompletion lane => Sys2Proof.Machine.execFrameCompletion lane s
  | .controlBlockOffer port seq payload => Sys2Proof.Machine.execControlBlockOffer port seq payload s
  | .executionStart => Sys2Proof.Machine.execExecutionStart s
  | .unknownCode code params => Sys2Proof.Machine.execUnknownCode code params s
  | .echo params => Sys2Proof.Machine.execEcho params s
  | .unitRead params => Sys2Proof.Machine.execUnitRead params s
  | .groupSet params => Sys2Proof.Machine.execGroupSet params s
  | .noticeMask params => Sys2Proof.Machine.execNoticeMask params s
  | .restartLanes params => Sys2Proof.Machine.execRestartLanes params s
  | .restartFull => Sys2Proof.Machine.execRestartFull s
  | .portRead params => Sys2Proof.Machine.execPortRead params s
  | .portZero params => Sys2Proof.Machine.execPortZero params s
  | .flowSet params => Sys2Proof.Machine.execFlowSet params s
  | .flowClear params => Sys2Proof.Machine.execFlowClear params s
  | .flowRead params => Sys2Proof.Machine.execFlowRead params s
  | .flowList params => Sys2Proof.Machine.execFlowList params s
  | .flowZero params => Sys2Proof.Machine.execFlowZero params s
  | .laneSet params => Sys2Proof.Machine.execLaneSet params s
  | .laneSource params => Sys2Proof.Machine.execLaneSource params s
  | .laneRead params => Sys2Proof.Machine.execLaneRead params s
  | .lanePeek params => Sys2Proof.Machine.execLanePeek params s
  | .laneZero params => Sys2Proof.Machine.execLaneZero params s
  | .start params => Sys2Proof.Machine.execStart params s
  | .halt params => Sys2Proof.Machine.execHalt params s
  | .run params => Sys2Proof.Machine.execRun params s
  | .hold params => Sys2Proof.Machine.execHold params s
  | .step params => Sys2Proof.Machine.execStep params s
  | .seek params => Sys2Proof.Machine.execSeek params s
  | .cue params => Sys2Proof.Machine.execCue params s
  | .stop params => Sys2Proof.Machine.execStop params s
  | .timeSet params => Sys2Proof.Machine.execTimeSet params s
  | .timeAdjust params => Sys2Proof.Machine.execTimeAdjust params s
  | .timeRead params => Sys2Proof.Machine.execTimeRead params s
  | .schedAt params => Sys2Proof.Machine.execSchedAt params s
  | .sdlCancel params => Sys2Proof.Machine.execSdlCancel params s
  | .sdlCancelAll => Sys2Proof.Machine.execSdlCancelAll s
  | .sdlRead params => Sys2Proof.Machine.execSdlRead params s
  | .expiry => Sys2Proof.Machine.execExpiry s
  | .overdueRequest => Sys2Proof.Machine.execOverdueRequest s
  | .noticeRequest notice => Sys2Proof.Machine.execNoticeRequest notice s
  | .reportCompletion => Sys2Proof.Machine.execReportCompletion s
  | .rptHoldChange asserted => Sys2Proof.Machine.execRptHoldChange asserted s
  | .tbTick => Sys2Proof.Machine.execTbTick s

end Sys2Proof.Machine
end

