-- ==== Sys2Proof/Safety.lean ====
section
/-! DEFINITION. What every state of a run satisfies: the bounds and relations the spec states of the machine as a whole, one
predicate for each part of the state. The invariant statements and the tests use these. -/

namespace Sys2Proof.Safety

open Sys2Proof.Machine

/-! ## Ingress ports -/

/-- A port: a block is in reception only in UP (R10); the receive buffer holds at most 2 blocks (R16), each a good media block
(R13); and, until the count of completed blocks saturates, it is the sum of the five outcomes (R14). -/
def portOk (x : Port) : Prop :=
  let c := x.counters
  (x.receiving = true → x.up = true) ∧ x.buffer.length ≤ 2 ∧
    (∀ m ∈ x.buffer, m.payload.length ≤ 256 ∧ m.flow ≠ 0 ∧ m.flow ≠ 0xFFFF) ∧
    (c.completed.toNat < 2 ^ 32 - 1 →
      c.completed.toNat = c.mediaGood.toNat + c.controlGood.toNat + c.length.toNat + c.crc.toNat + c.kind.toNat)

/-- Both ports. -/
def PortsOk (s : State) : Prop := portOk s.ports.a ∧ portOk s.ports.b

/-! ## Flow table -/

/-- A flow entry (R25, R26, R28): H is absent just while ARMED, no mark is set then, the mark of H is set otherwise, the stale run
is 0..7, a SILENT entry has both paths DOWN, and a port outside the set has no record. -/
def flowOk (e : FlowEntry) : Prop :=
  (e.flow ≠ 0 ∧ e.flow ≠ 0xFFFF) ∧ (e.state = .armed ↔ e.high = none) ∧ (e.state = .armed → e.window = 0) ∧
    (e.state ≠ .armed → e.window.getLsbD 0 = true) ∧ e.staleRun ≤ 7 ∧
    (e.state = .silent → e.paths.a.up = false ∧ e.paths.b.up = false) ∧
    (inSet e.ports .a = false → e.paths.a = newPath) ∧ (inSet e.ports .b = false → e.paths.b = newPath)

/-- The flow table (R25): at most 64 entries, in ascending identifier, pairwise different. -/
def FlowTableOk (s : State) : Prop :=
  s.classifier.table.length ≤ 64 ∧ (s.classifier.table.map fun e => e.flow.toNat).Pairwise (· < ·) ∧
    ∀ e ∈ s.classifier.table, flowOk e

/-! ## Block store -/

/-- The canonical form of the store and its accounting (R47, R48): records in ascending number, every reference count at least 1,
free and used cells total 1,024, free and used records total 512. -/
def storeOk (st : Store) : Prop :=
  (st.records.map fun r => r.ref).Pairwise (· < ·) ∧ (∀ r ∈ st.records, 1 ≤ r.holders) ∧
    st.freeCells + (st.records.map recordCells).sum = 1024 ∧ st.freeRecords + st.records.length = 512

/-- The store of a state. -/
def StoreOk (s : State) : Prop := storeOk s.store

/-- R53: while the store-full flag is set, one of the recovery thresholds is unmet. -/
def FullFlagOk (s : State) : Prop :=
  s.store.fullFlag = true → s.store.freeCells < 128 ∨ s.store.freeRecords < 64

/-- The holders a lane gives a block: queue entries, current or parked unit, frame in transmission (R48). -/
def laneHolders (ref : Nat) (x : Lane) : Nat :=
  (x.queue.countP fun e => e.block == ref) + (x.held.toList.countP fun e => e.block == ref) +
    (x.frame.toList.countP fun f => f.block == some ref)

/-- The holders of a block over all lanes (R48). -/
def holdersOf (s : State) (ref : Nat) : Nat := ((List.finRange 16).map fun l => laneHolders ref (laneOf s l)).sum

/-- R48: every stored block's reference count equals the number of its holders, and every holder's block is stored, with the
entry's cells and the frame's length those of the block. -/
def HoldersOk (s : State) : Prop :=
  (∀ r ∈ s.store.records, r.holders = holdersOf s r.ref) ∧
    ∀ l : LaneId,
      (∀ e ∈ (laneOf s l).queue ++ (laneOf s l).held.toList,
        ∃ r ∈ s.store.records, r.ref = e.block ∧ recordCells r = e.cells) ∧
      ∀ f ∈ (laneOf s l).frame.toList, ∀ ref ∈ f.block.toList,
        ∃ r ∈ s.store.records, r.ref = ref ∧ r.payload.length = f.length

/-! ## Lanes -/

/-- The command queue (R106, R107): at most 4 commands, each legal after the one before it, the newest being the preceding
accepted command. -/
def commandsOk (x : Lane) : Prop :=
  x.commands.length ≤ 4 ∧ (x.commands.map lastOf).IsChain (fun a b => legalAfter a b = true) ∧
    ∀ c ∈ x.commands.getLast?.toList, x.last = lastOf c

/-- What a lane's transport state says of the lane (R98, R100, R107). -/
def laneShape (x : Lane) : Prop :=
  x.queue.length ≤ 64 ∧ commandsOk x ∧
    (x.state = .idle →
      x.queue = [] ∧ x.held = none ∧ x.commands = [] ∧ x.last = .none ∧ x.stopMode = none ∧ x.nextSlot = 0 ∧
        x.remainder = 0 ∧ x.datum = 0) ∧
    (x.state ≠ .idle → x.last ≠ .none) ∧
    (x.state = .draining → x.commands = [] ∧ x.last = .stop ∧ x.stopMode ≠ none) ∧
    (x.state = .parked → x.queue = [] ∧ x.commands = [] ∧ x.last = .stop)

/-- Every lane has the shape of its transport state. -/
def LanesOk (s : State) : Prop := ∀ l : LaneId, laneShape (laneOf s l)

/-- R78, R79: every queue entry's release time lies strictly after the datum, the entries stand in ascending distance from the
datum, and the datum is the release time of the held unit. -/
def queueOrdered (x : Lane) : Prop :=
  (∀ e ∈ x.queue, strictlyAfter e.release x.datum = true) ∧
    (x.queue.map fun e => distance x.datum e.release).Pairwise (· ≤ ·) ∧
    ∀ e ∈ x.held.toList, x.datum = e.release

/-- Every lane's queue is in order. -/
def QueuesOk (s : State) : Prop := ∀ l : LaneId, queueOrdered (laneOf s l)

/-- R55: no lane's charge exceeds its quota. -/
def ChargesOk (s : State) : Prop := ∀ l : LaneId, charge (laneOf s l) ≤ (laneOf s l).config.quota.toNat

/-- R75, R81: a lane's configuration is in range and its grid remainder lies in 0..CD−1. -/
def gridOk (x : Lane) : Prop := configValid x.config = true ∧ x.remainder.toNat < x.config.cd.toNat

/-- Every lane's configuration and grid. -/
def GridsOk (s : State) : Prop := ∀ l : LaneId, gridOk (laneOf s l)

/-! ## Time base and directive scheduler -/

/-- R63, R73: while the time base is UNSET every lane is IDLE, the list is empty and no expiry is in service. -/
def TimeOk (s : State) : Prop :=
  s.time.isSet = false →
    (∀ l : LaneId, (laneOf s l).state = .idle) ∧ s.scheduler.list = [] ∧ s.scheduler.service = none

/-- A RESTART in progress (R136, R137): a lane has still to answer, and none stands twice among those that have. In a RESTART FULL the
scheduler is as its own restart left it, and every lane that has answered as its restart left it. -/
def RestartOk (s : State) : Prop :=
  ∀ r ∈ s.control.restart.toList,
    r.waiting ≠ [] ∧ r.waiting.Nodup ∧
      (r.scope = .full →
        s.scheduler = { list := [], nextSerial := 0, overdue := 0, service := none } ∧
          ∀ l : LaneId, l ∈ r.waiting ∨ laneOf s l = resetLane)

/-- Every parameter but the lane lies in its range (R140 check 4), for a directive with its right number of parameters. -/
def paramsInRange (d : Directive) (ps : List Word) : Bool :=
  match d, ps with
  | .groupSet, [w] => decide (w = 0 ∨ (64 ≤ w.toNat ∧ w.toNat ≤ 254))
  | .restart, [w] => decide (w = 1 ∨ w = 2)
  | .portRead, [w] => decide (w.toNat ≤ 1)
  | .portZero, [w] => decide (w.toNat ≤ 1)
  | .flowSet, [f, ports, lapse] =>
    decide (f ≠ 0 ∧ f ≠ 0xFFFF ∧ 1 ≤ ports.toNat ∧ ports.toNat ≤ 3 ∧ lapse.toNat ≤ 255)
  | .flowClear, [f] => decide (f ≠ 0 ∧ f ≠ 0xFFFF)
  | .flowRead, [f] => decide (f ≠ 0 ∧ f ≠ 0xFFFF)
  | .flowZero, [f] => decide (f ≠ 0 ∧ f ≠ 0xFFFF)
  | .flowList, [_, m] => decide (1 ≤ m.toNat ∧ m.toNat ≤ 64)
  | .laneSet, [_, source, cnh, cnl, cd, dh, dl, oh, ol, quota, w, _, fillLength] =>
    decide
      (source ≠ 0xFFFF ∧ 1 ≤ (cnh ++ cnl : Tick).toNat ∧ (cnh ++ cnl : Tick).toNat ≤ 16777215 ∧ 1 ≤ cd.toNat ∧
        64 * cd.toNat ≤ (cnh ++ cnl : Tick).toNat ∧ (dh ++ dl : Tick).toNat ≤ 16777215 ∧
        -536870912 ≤ (oh ++ ol : Tick).toInt ∧ (oh ++ ol : Tick).toInt ≤ 536870911 ∧ quota.toNat ≤ 1024 ∧
        2 ≤ w.toNat ∧ w.toNat ≤ 1023 ∧ fillLength.toNat ≤ 256)
  | .laneSource, [_, f, cut] => decide (f ≠ 0xFFFF ∧ cut.toNat ≤ 1)
  | .lanePeek, [_, start, m] => decide (start.toNat ≤ 63 ∧ 1 ≤ m.toNat ∧ m.toNat ≤ 64)
  | .stop, [_, mode] => decide (mode.toNat ≤ 1)
  | .timeAdjust, [high, low] =>
    decide (-16777216 ≤ (high ++ low : Tick).toInt ∧ (high ++ low : Tick).toInt ≤ 16777215)
  | .sdlRead, [start, m] => decide (start.toNat ≤ 31 ∧ 1 ≤ m.toNat ∧ m.toNat ≤ 32)
  | _, _ => true

/-- The twelve directives that can be scheduled (R164), each with its number of parameters and whether its first is a lane. -/
def schedulableForms : List (Directive × Nat × Bool) :=
  [(.flowSet, 3, false), (.flowClear, 1, false), (.laneSource, 3, true), (.start, 3, true), (.halt, 1, true),
    (.run, 1, true), (.hold, 1, true), (.step, 1, true), (.seek, 1, true), (.cue, 1, true), (.stop, 2, true),
    (.timeAdjust, 2, false)]

/-- A directive that AT's checks 4 to 7 pass (R166). -/
abbrev admissible (d : Directive) (ps : List Word) : Prop :=
  ∃ form ∈ schedulableForms,
    form.1 = d ∧ ps.length = form.2.1 ∧ (form.2.2 = true → (ps.getD 0 0).toNat ≤ 15) ∧ paramsInRange d ps = true

/-- The scheduled directive list and the expiry in service (R164, R165, R166, R167): at most 32 entries of pairwise different
serials in 0..65,534, each a directive that AT admits; an expiry of the overdue walk is in service only while its request is. -/
def SdlOk (s : State) : Prop :=
  s.scheduler.list.length ≤ 32 ∧ (s.scheduler.list.map fun e => e.serial.toNat).Nodup ∧
    (∀ e ∈ s.scheduler.list ++ (s.scheduler.service.map fun x => x.entry).toList,
      e.serial.toNat ≤ 65534 ∧ admissible e.code e.params) ∧
    s.scheduler.nextSerial.toNat ≤ 65534 ∧
    ∀ x ∈ s.scheduler.service.toList, x.late = true → s.scheduler.overdue ≠ 0

/-- Ticks from TB to an entry's due time, negative once it lies behind TB (R64). -/
def ticksToDue (s : State) (e : SdlEntry) : Int := (e.due - s.time.tb).toInt

/-- R164: the list stands in the order of its due times, the next to come first. -/
def SdlOrdered (s : State) : Prop := (s.scheduler.list.map (ticksToDue s)).Pairwise (· ≤ ·)

/-- No entry has been left in the list, due, for more than 2^30 ticks. -/
def SdlPrompt (s : State) : Prop := ∀ e ∈ s.scheduler.list, -2 ^ 30 ≤ ticksToDue s e

/-! ## Control unit and report generator -/

/-- The key of an intake entry (R122). -/
def intakeKey (e : IntakeEntry) : Word × Word := (e.origin, e.seq)

/-- The key of a reply-cache entry (R133). -/
def cacheKey (e : CacheEntry) : Word × Word := (e.origin, e.seq)

/-- R122, R133: at most 4 intake entries and 8 reply-cache entries, and no key held twice. -/
def ControlOk (s : State) : Prop :=
  s.control.intake.length ≤ 4 ∧ s.control.cache.length ≤ 8 ∧
    (s.control.intake.map intakeKey ++ s.control.cache.map cacheKey).Nodup

/-- The block in execution (R127, R129, R131, R179): it is the head of the intake, a directive of it is still to be issued unless its
finish is what it waits for, its entries and result words fit a response, and a response place is reserved just when its reply
is wanted. -/
def ExecutionOk (s : State) : Prop :=
  match s.control.execution with
  | none => s.reports.reserved = false
  | some x =>
    (x.todo = [] ↔ x.ended ≠ none) ∧ x.todo.length + x.entries.length ≤ 16 ∧
      4 + 2 * (x.todo.length + x.entries.length) + wordsGiven x.entries ≤ 256 ∧
      match s.control.intake with
      | [] => False
      | b :: _ => s.reports.reserved = replyWanted b.payload

/-- The directives whose owners are asked in turn, each with the number of words every request to an owner gives it (R22, R49, R143, R146;
the three bits of word 3 of UNIT_READ count as words). -/
def inquiries : List (Envelope × List Nat) :=
  [(tableEnvelope .unitRead [], [3, 1, 1, 1, 2, 1, 1, 1, 2, 2, 2, 2, 2, 4, 1, 1]),
    (tableEnvelope .portRead [0], [17, 2]), (tableEnvelope .portRead [1], [17, 2]),
    (tableEnvelope .portZero [0], [0, 0]), (tableEnvelope .portZero [1], [0, 0])]

/-- An inquiry in progress (R129, R143, R146): it is all the control unit waits for, it is the next envelope of the block in execution
if there is one, an owner has still to answer, and those that have gave each their words. -/
def InquiryOk (s : State) : Prop :=
  ∀ q ∈ s.control.inquiry.toList,
    s.control.restart = none ∧ (∀ x ∈ s.control.execution.toList, x.todo.head? = some q.envelope) ∧
      ∃ asks ∈ inquiries,
        q.envelope = asks.1 ∧ q.asked < asks.2.length ∧ q.words.length = (asks.2.take q.asked).sum

/-- R6, R131: no response is longer than 256 words, on its way to RPT or in the reply cache. -/
def ResponsesFit (s : State) : Prop :=
  (∀ r ∈ s.reports.queue, r.payload.length ≤ 256) ∧ ∀ e ∈ s.control.cache, e.response.length ≤ 256

/-- The report queue (R177, R179, R183): with the reservation at most 16 places are taken, at most 12 by notices; the report in
transmission is the head; and the queue waits only for RPT or RPT_HOLD. -/
def ReportsOk (s : State) : Prop :=
  s.reports.queue.length + s.reports.reserved.toNat ≤ 16 ∧
    (s.reports.queue.countP fun r => decide (r.kind = .notice)) ≤ 12 ∧
    (s.reports.link = .head → s.reports.queue ≠ []) ∧
    (s.reports.link = .quiet → s.reports.hold = false → s.reports.queue = [])

/-! ## Words of the statements -/

/-- A directive may be issued with these parameters: it is the next envelope of the block in execution (R129), or the control unit
is IDLE and it is issued alone (log entry 5); and the control unit waits for the answer of no other (R129). -/
def mayIssue (d : Directive) (ps : List Word) (s : State) : Prop := issuable (tableEnvelope d ps) s = true

/-- The state after the control unit has received a directive's answer. -/
def answered (d : Directive) (st : Status) (results : List Word) (s : State) : State :=
  conclude { code := directiveCode d, status := st, results := results } s

/-- The port left by a port error that closes a completed block, its counters changed by f (R13, R18). -/
def portAfterBadBlock (f : PortCounters → PortCounters) (x : Port) : Port :=
  { x with receiving := false, counters := f { x.counters with completed := bump x.counters.completed }, errorFlag := true }

/-- The notice of a port error (R18). -/
def portErrorNotice (p : PortId) (x : Port) : List Notice := if x.errorFlag then [] else [.portErrors p]

/-- The port the arbiter serves (R23): its buffer holds a block, and when the other's does too it is not the last-served port. -/
abbrev served (s : State) (p : PortId) : Prop :=
  (portOf s p).buffer ≠ [] ∧ ((portOf s (otherPort p)).buffer ≠ [] → s.classifier.lastServed = otherPort p)

/-- The mark of sequence q is set in an entry's window (R25, R43). -/
def marked (e : FlowEntry) (q : Word) : Bool :=
  match e.high with
  | some h => decide ((h - q).toNat < 32) && e.window.getLsbD (h - q).toNat
  | none => false

/-- A block of an entry's flow, by a port in its set, is accepted (R29..R33): the entry is ARMED or SILENT, or the block is no
duplicate and carries DISC, is ahead of H, is recovered inside the window, or is the eighth of a stale run. -/
def accepts (m : Media) (e : FlowEntry) : Prop :=
  let d := (m.seq - e.high.getD 0).toNat
  e.state ≠ .live ∨
    (¬ (d = 0 ∨ (32768 ≤ d ∧ 65536 - d ≤ 31 ∧ e.window.getLsbD (65536 - d) = true)) ∧
      (m.disc = true ∨ d ≤ 32767 ∨ 65536 - d ≤ 31 ∨ 7 ≤ e.staleRun))

/-- The classifier's notices for an accepted block, in order (R27, R28, R29, R30, R32, R33). -/
def flowNotices (p : PortId) (m : Media) (e : FlowEntry) : List Notice :=
  let d := (m.seq - e.high.getD 0).toNat
  (if e.state = .live ∧ e.ports = .both ∧ (perPort e.paths p).up = false ∧ (perPort e.paths (otherPort p)).up = true then
      [.pathUp e.flow p] else []) ++
    match e.state with
    | .armed => []
    | .silent => [.flowResumed e.flow]
    | .live =>
      if m.disc then [.flowResync e.flow .disc]
      else if 32767 < d then (if 65536 - d ≤ 31 then [] else [.flowResync e.flow .staleRun])
      else if 1 < d ∧ e.gapFlag = false then [.flowGap e.flow (BitVec.ofNat 16 (d - 1))]
      else []

/-- The candidate test of R56. -/
abbrev candidate (m : Media) (x : Lane) : Prop :=
  x.config.source = m.flow ∧ m.flow ≠ 0 ∧ x.state ∈ [LaneState.running, .held, .stepping, .seeking, .cueing]

/-- Refused under LATE (R57). -/
abbrev refusedLate (m : Media) (x : Lane) : Prop := ¬ strictlyAfter (m.pts + x.config.offset - x.config.delay) x.datum

/-- Refused under EARLY, LATE having passed (R57). -/
abbrev refusedEarly (tb : Tick) (m : Media) (x : Lane) : Prop :=
  ¬ refusedLate m x ∧ ¬ atOrBefore (m.pts + x.config.offset - x.config.delay) tb ∧
    2 ^ 30 < distance tb (m.pts + x.config.offset - x.config.delay)

/-- Refused under QUEUE FULL, the tests before having passed (R57). -/
abbrev refusedQueueFull (tb : Tick) (m : Media) (x : Lane) : Prop :=
  ¬ refusedLate m x ∧ ¬ refusedEarly tb m x ∧ 64 ≤ x.queue.length

/-- Refused under QUOTA, the tests before having passed (R55, R57). -/
abbrev refusedQuota (tb : Tick) (m : Media) (x : Lane) : Prop :=
  ¬ refusedLate m x ∧ ¬ refusedEarly tb m x ∧ x.queue.length < 64 ∧
    x.config.quota.toNat < charge x + (m.payload.length + 31) / 32

/-- A passing lane (R57). -/
abbrev passes (tb : Tick) (m : Media) (x : Lane) : Prop :=
  candidate m x ∧ ¬ refusedLate m x ∧ ¬ refusedEarly tb m x ∧ x.queue.length < 64 ∧
    charge x + (m.payload.length + 31) / 32 ≤ x.config.quota.toNat

/-- The state a take of port p's head leaves, with entry e of its flow become e', and with the store, the lanes and the requests
of t (R23, R24, R27). -/
def takenWith (p : PortId) (rest : List Media) (e e' : FlowEntry) (s t : State) : State :=
  { s with
    ports := setPerPort s.ports p { portOf s p with buffer := rest }
    classifier :=
      { s.classifier with
        lastServed := p
        table := s.classifier.table.map fun y => if y.flow = e.flow then e' else y }
    store := t.store, lanes := t.lanes, requests := t.requests }

/-- The take of a block of an entry's flow, by a port in the entry's set (R23, R27). -/
abbrev takes (s : State) (p : PortId) (m : Media) (rest : List Media) (e : FlowEntry) : Prop :=
  served s p ∧ (portOf s p).buffer = m :: rest ∧ findFlow m.flow s.classifier.table = some e ∧ inSet e.ports p = true

/-- A slot event of a lane is due (R65, R83). -/
def slotIsDue (s : State) (l : LaneId) : Prop :=
  (laneOf s l).state ≠ .idle ∧ atOrBefore (laneOf s l).nextSlot s.time.tb

/-- The state a taken command moves a lane to (R109). -/
def movedTo (c : Command) : LaneState :=
  match c with
  | .run => .running
  | .hold => .held
  | .step => .stepping
  | .seek => .seeking
  | .cue => .cueing
  | .stop _ => .draining

/-- A lane after the command stage of a slot event (R109): the head of its command queue is taken in the five states that take
one, STOP setting the stop mode. -/
def commanded (x : Lane) : Lane :=
  if x.state ∈ [LaneState.running, .held, .stepping, .seeking, .cueing] then
    match x.commands with
    | [] => x
    | .stop mode :: rest => { x with commands := rest, state := .draining, stopMode := some mode }
    | c :: rest => { x with commands := rest, state := movedTo c }
  else x

/-- LANE_STATE of the command stage (R99, R109). -/
def commandNotice (l : LaneId) (x : Lane) : List Notice :=
  if (commanded x).state = x.state then [] else [.laneState l x.state (commanded x).state]

/-- LANE_OVERRUN of the frame stage (R90). -/
def overrunNotice (l : LaneId) (x : Lane) : List Notice :=
  if x.frame.isSome = true ∧ x.overrun = false then [.laneOverrun l] else []

/-- The releases of a list of entries at the store, in order (R52). -/
def releaseEntries (es : List Entry) (s : State) : State := es.foldl (fun u e => release e.block u) s

/-- The counters of a lane that shows its unit again, or fill when it has none (R86). -/
def shownAgain (x : Lane) : LaneCounters :=
  match x.held with
  | none => { x.counters with filled := bump x.counters.filled }
  | some _ => { x.counters with repeated := bump x.counters.repeated }

/-- The frame of a lane that shows its unit again, or fill when it has none (R8, R86). -/
def againFrame (x : Lane) (f : Frame) : Prop :=
  f.marker = false ∧ f.disc = false ∧
    match x.held with
    | none =>
      f.kind = .fillFrame ∧ f.block = none ∧ f.flow = 0 ∧ f.seq = 0 ∧ f.upts = 0 ∧ f.fillWord = x.config.fillWord ∧
        f.length = x.config.fillLength.toNat
    | some u => f.kind = .repeatFrame ∧ f.block = some u.block ∧ f.flow = u.flow ∧ f.seq = u.seq ∧ f.upts = u.pts

/-- The frame of a unit's first presentation (R8). -/
def unitFrameOf (u : Entry) (f : Frame) : Prop :=
  f.kind = .unitFrame ∧ f.block = some u.block ∧ f.flow = u.flow ∧ f.seq = u.seq ∧ f.upts = u.pts ∧ f.marker = u.marker ∧
    f.disc = u.disc

/-- A slot event of lane l answers a next state in which the lane is y but for its grid and its overrun (R81, R90). Its requests are, in
order, those of the command stage, the STORE_RECOVERED of the released entries (R52, R53), these notices, and that of the frame
stage (R83). Such a frame begins when none is in transmission (R88), its FLEN the length of its block's stored payload (R8). The
store is what the releases leave, the frame's block then with one holder more (R51). -/
def slotGives (s : State) (l : LaneId) (y : Lane) (released : List Entry) (notices : List Notice) (frame : Frame → Prop) :
    Prop :=
  let v := releaseEntries released { s with requests := s.requests ++ commandNotice l (laneOf s l) }
  ∃ t, exec (.slotEvent l) s = .next t ∧
    laneOf t l =
      { y with
        nextSlot := (laneOf t l).nextSlot
        remainder := (laneOf t l).remainder
        overrun := (laneOf t l).overrun
        frame := (laneOf t l).frame
        counters := { y.counters with overruns := (laneOf t l).counters.overruns } } ∧
    t.requests = v.requests ++ notices ++ overrunNotice l (laneOf s l) ∧
    ((laneOf s l).frame ≠ none → t.store = v.store) ∧
    ((laneOf s l).frame = none →
      ∃ f, (laneOf t l).frame = some f ∧ frame f ∧
        (∀ ref, f.block = some ref → f.length = (blockPayload v.store ref).length) ∧
        t.store =
          match f.block with
          | none => v.store
          | some ref =>
            { v.store with
              records := v.store.records.map fun r => if r.ref = ref then { r with holders := r.holders + 1 } else r })

/-- A lane that selects a queue entry as its unit, the queue then as given and `passed` entries skipped (R85, R111). -/
def selecting (e : Entry) (queue : List Entry) (passed : Nat) (x : Lane) : Lane :=
  { x with
    queue := queue, held := some e, datum := e.release
    counters :=
      { x.counters with presented := bump x.counters.presented, skipped := satAdd x.counters.skipped passed } }

/-- The commands legal after a preceding command: a row of R107's table. -/
def successors : LastCommand → List LastCommand
  | .none => []
  | .start => [.hold, .seek, .cue, .stop]
  | .run => [.hold, .seek, .cue, .stop]
  | .hold => [.run, .step, .seek, .cue, .stop]
  | .step => [.run, .step, .seek, .stop]
  | .seek => [.run, .hold, .stop]
  | .cue => [.run, .hold, .stop]
  | .stop => []

/-- A lane's context discarded, its configuration, counters, flags and frame kept (R104): what HALT leaves, flushed aside. -/
def idleLane (x : Lane) : Lane :=
  { x with
    state := .idle, queue := [], held := none, commands := [], last := .none, stopMode := none, nextSlot := 0
    remainder := 0, datum := 0 }

/-- The transmission after reports have joined a queue (R183). -/
def linkAfterAdmission (r : Reports) : RptLink := if r.link = .quiet ∧ r.hold = false then .head else r.link

/-- The bit TIME_UNSET of P0 as a report admitted now carries it (R182). -/
def unsetBit (s : State) : Word := if s.time.isSet then 0 else 0x8000

/-- The reports after one has been admitted with its payload complete (R178, R182, R183). -/
def reportAdded (kind : ReportKind) (payload : List Word) (s : State) : Reports :=
  { s.reports with
    queue := s.reports.queue ++ [{ kind := kind, seq := s.reports.seq, pts := s.time.tb, payload := payload }]
    seq := s.reports.seq + 1
    link := linkAfterAdmission s.reports }

/-- The response of R6 to a block, with its block status code, TIME_UNSET and RESENT clear. -/
def responseOf (unit : BitVec 6) (b : IntakeEntry) (status : Nat) (entries : List ResultEntry) : List Word :=
  [BitVec.ofNat 16 (status * 256 + unit.toNat), b.origin, b.seq, BitVec.ofNat 16 (portCode b.port * 256 + entries.length)] ++
    entries.flatMap fun e =>
      [BitVec.ofNat 16 (e.code.toNat * 256 + (statusCode e.status).toNat), BitVec.ofNat 16 e.results.length] ++ e.results

/-- The state after the finish of block b, the rest of the intake behind it (R132): the response admitted when it is wanted, the
reply-cache entry made, the oldest of 8 removed first. -/
def finishedBy (b : IntakeEntry) (rest : List IntakeEntry) (payload : List Word) (s : State) : State :=
  { s with
    control :=
      { s.control with
        execution := none
        intake := rest
        overrunFlag := false
        cache :=
          (if s.control.cache.length < 8 then s.control.cache else s.control.cache.drop 1) ++
            [{ origin := b.origin, seq := b.seq, port := b.port, sweep := b.sweep, response := payload }] }
    reports :=
      if replyWanted b.payload then
        { reportAdded .response (stampUnset s.time.isSet payload) s with reserved := false }
      else s.reports }

/-- The state when the last entry of block b is made, or its walk has failed, the rest of the intake behind it: the block finishes with
this status (R132), or its finish waits when the next of the surroundings' choices says so (log entry 26). -/
def blockEnded (b : IntakeEntry) (rest : List IntakeEntry) (status : BlockStatus) (entries : List ResultEntry) (s : State) :
    State :=
  let u := { s with surroundings := { s.surroundings with finishes := s.surroundings.finishes.tail } }
  if s.surroundings.finishes.head? = some .later then
    { u with
      control := { s.control with execution := some { todo := [], entries := entries, ended := some status } } }
  else
    let code : Nat :=
      match status with
      | .complete => 0
      | .stopped => 1
      | .malformed => 2
    finishedBy b rest (responseOf s.control.unitAddr b code entries) u

/-- An offer's address names the part (R123). -/
def addressed (o : Offer) (s : State) : Prop :=
  let a := (o.payload.getD 0 0).extractLsb' 0 8
  3 ≤ o.payload.length ∧
    ((a.toNat ≤ 63 ∧ a.toNat = s.control.unitAddr.toNat) ∨ (64 ≤ a.toNat ∧ a.toNat ≤ 254 ∧ s.control.group = some a) ∨
      a.toNat = 255)

/-- A RESTART FULL is in progress (R137). -/
abbrev inFullRestart (s : State) : Prop := s.control.restart.map (·.scope) = some .full

/-- The state from which an offer is judged: its place in the list of offers given up (R15, log entry 4). No offer is judged while a
RESTART FULL is in progress (R137). -/
def offerTaken (o : Offer) (s u : State) : Prop :=
  ¬ inFullRestart s ∧ ((s.offers = [] ∧ u = s) ∨ ∃ rest, s.offers = o :: rest ∧ u = { s with offers := rest })

/-- The directive of the entry in service as the control unit would issue it alone (R141, R169), the list held: the state it leaves and
the status it answers. -/
def issuedAlone (e : SdlEntry) (s v : State) (st : Status) : Prop :=
  exec (directiveCommand e.code e.params)
      { s with
        scheduler := { s.scheduler with service := none, overdue := 1 }
        control := { s.control with execution := none, restart := none, inquiry := none } } = .next v ∧
    v.control.lastAnswer = some { code := directiveCode e.code, status := st, results := [] }

/-- The end of an expiry (R169): its owner's effect v, no expiry in service, SCHED_DONE behind the owner's notices. -/
def expiryEnded (e : SdlEntry) (late : Bool) (s v : State) (st : Status) : State :=
  { v with
    control := s.control
    scheduler := { s.scheduler with service := none }
    requests := v.requests ++ [.schedDone e.serial e.code st late] }

/-- The head entry has left the list and its expiry is in service, one of the owners' answers to come used (R169, log entry 22). -/
def inServiceNow (e : SdlEntry) (rest : List SdlEntry) (late : Bool) (s : State) : State :=
  { s with
    scheduler := { s.scheduler with list := rest, service := some { entry := e, late := late } }
    surroundings := { s.surroundings with answers := s.surroundings.answers.tail } }

/-- Notices served one after another, each by its own NOTICE_REQUEST (R180). -/
def servedInTurn (ns : List Notice) (s : State) : State :=
  ns.foldl
    (fun u n =>
      match exec (.noticeRequest n) u with
      | .next v => v
      | .fault _ => u
      | .refused _ => u)
    { s with requests := [] }

/-- How many owners have answered the directive that asks them in turn: none of one not yet begun (R143, R146). -/
def askedSoFar (s : State) : Nat := (s.control.inquiry.map (·.asked)).getD 0

/-- The words they have given. -/
def givenSoFar (s : State) : List Word := (s.control.inquiry.map (·.words)).getD []

/-- How many owners answer in this step, of the first `limit` (log entry 9). -/
def answersNow (count limit : Nat) (s : State) : Nat := min (s.surroundings.asks.headD count) (limit - askedSoFar s)

/-- One of the surroundings' choices used, with this inquiry in progress after the step. -/
def inquiring (q : Option Inquiry) (s : State) : State :=
  { s with
    control := { s.control with inquiry := q }
    surroundings := { s.surroundings with asks := s.surroundings.asks.tail } }

/-- The lanes that have not yet answered a RESTART: those of the one in progress, all of one not yet begun (R136, R137). -/
def unanswered (s : State) : List LaneId := (s.control.restart.map (·.waiting)).getD (List.finRange 16)

/-- Those of them that serve it in this step (log entry 27). -/
def answering (s : State) : List LaneId :=
  (unanswered s).filter fun l => l ∈ s.surroundings.restarts.headD (unanswered s)

/-- Those of them that do not. -/
def leftWaiting (s : State) : List LaneId := (unanswered s).filter fun l => l ∉ answering s

/-- The blocks a lane holds, in the order a restart releases them (R48, R120, log entry 24). -/
def blocksHeld (x : Lane) : List Nat :=
  x.queue.map (·.block) ++ x.held.toList.map (·.block) ++ x.frame.toList.flatMap fun f => f.block.toList

/-- The store and the requests after the restarts of the lanes that serve theirs in this step (R52, R53, R62). -/
def afterReleases (s : State) : State :=
  ((answering s).flatMap fun l => blocksHeld (laneOf s l)).foldl (fun u ref => release ref u) s

/-- The transmission after RESTART FULL (R183, R187): a report going out completes, off the queue; else the queue's new head begins
unless RPT_HOLD is asserted. -/
def linkAfterRestart (r : Reports) : RptLink :=
  match r.link, r.queue with
  | .head, x :: _ => .detached x
  | .detached x, _ => .detached x
  | _, _ => if r.hold then .quiet else .head

end Sys2Proof.Safety
end

