-- ==== Sys2Proof/Certificates/Slice0/Obligations.lean ====
section
/-! DEFINITION. The statements for the provers. Every statement about a command is about `exec`; `StepRunsFrontCommand` carries it
to a step. -/

open Sys2Proof Sys2Proof.Machine Sys2Proof.Safety

/-! ## The machine -/

/-- A step takes the command at the front of the queue and runs it with the rest waiting. The queue is the model's (log entry 1). -/
def Obligations.StepRunsFrontCommand : Prop :=
  ∀ (c : Instr) (rest : List Instr) (s : State),
    step { s with pending := c :: rest } = exec c { s with pending := rest }

/-- Every command answers a next state in every state and leaves the queue of commands as it is; with no command waiting the
part idles (log entries 1, 17). -/
def Obligations.EveryCommandCompletes : Prop :=
  (∀ (c : Instr) (s : State), ∃ t, exec c s = .next t ∧ t.pending = s.pending) ∧
    ∀ s : State, s.pending = [] → step s = .next s

/-- HARD_RESET gives every block its values after hard reset (R21, R46, R62, R73, R97, R139, R175, R187) and leaves
UNIT_RESTARTED with cause HARD in the report queue (R186), going out on RPT unless RPT_HOLD is asserted (R183). Its PTS of 0, and
that offers and notice requests not yet served are dropped, are the model's choices (log entries 25 and 29). -/
def Obligations.HardResetValues : Prop :=
  ∀ (straps : BitVec 6) (s : State),
    exec (.hardReset straps) s =
      .next
        { ports := ⟨⟨false, false, [], ⟨0, 0, 0, 0, 0, 0, 0, 0⟩, false⟩, ⟨false, false, [], ⟨0, 0, 0, 0, 0, 0, 0, 0⟩, false⟩⟩
          classifier :=
            { table := [], unknown := ⟨0, 0⟩, lastServed := .b, sweepNumber := 0, sweepTimer := 0, sweepsDue := 0 }
          store := { records := [], freeCells := 1024, freeRecords := 512, fullFlag := false }
          lanes :=
            Vector.replicate 16
              { config := { source := 0, cn := 32768, cd := 1, delay := 0, offset := 0, quota := 64, divisor := 2,
                            fillWord := 0, fillLength := 0 }
                state := .idle, queue := [], held := none, commands := [], last := .none, stopMode := none, nextSlot := 0
                remainder := 0, datum := 0, counters := ⟨0, 0, 0, 0, 0, 0, 0, 0, 0, 0, 0⟩, underrun := false
                refused := false, overrun := false, frame := none }
          time := { tb := 0, isSet := false }
          scheduler := { list := [], nextSerial := 0, overdue := 0, service := none }
          control :=
            { unitAddr := straps, group := none, intake := [], execution := none, restart := none, inquiry := none, cache := []
              counters := ⟨0, 0, 0, 0, 0⟩, overrunFlag := false, lastAnswer := none }
          reports :=
            { queue := [{ kind := .notice, seq := 0, pts := 0
                          payload := [0x8800 ||| straps.setWidth 16, 0x0801, 0, 1, 1] }]
              seq := 1, mask := 0xFF, suppressed := 0, reserved := false
              link := if s.reports.hold then .quiet else .head, hold := s.reports.hold }
          offers := [], requests := [], surroundings := s.surroundings, pending := s.pending }

/-- The state after reset satisfies every invariant stated below. -/
def Obligations.InvariantsHoldAtReset : Prop :=
  PortsOk State.reset ∧ FlowTableOk State.reset ∧ StoreOk State.reset ∧ FullFlagOk State.reset ∧ HoldersOk State.reset ∧
    LanesOk State.reset ∧ QueuesOk State.reset ∧ ChargesOk State.reset ∧ GridsOk State.reset ∧ TimeOk State.reset ∧
    RestartOk State.reset ∧ InquiryOk State.reset ∧ SdlOk State.reset ∧ SdlOrdered State.reset ∧ SdlPrompt State.reset ∧ ControlOk State.reset ∧
    ExecutionOk State.reset ∧ ResponsesFit State.reset ∧ ReportsOk State.reset

/-! ## Ingress ports -/

/-- LINK_GAIN and LINK_LOSS in DOWN and in UP (R9, R11): a block in reception is lost as truncated, and PORT_ERRORS precedes
PORT_DOWN. -/
def Obligations.LinkEvents : Prop :=
  ∀ (p : PortId) (s : State),
    ((portOf s p).up = false →
      exec (.linkGain p) s =
          .next
            { s with
              ports := setPerPort s.ports p { portOf s p with up := true }
              requests := s.requests ++ [.portUp p] } ∧
        exec (.linkLoss p) s = .next s) ∧
    ((portOf s p).up = true →
      exec (.linkGain p) s = .next s ∧
        ((portOf s p).receiving = false →
          exec (.linkLoss p) s =
            .next
              { s with
                ports := setPerPort s.ports p { portOf s p with up := false }
                requests := s.requests ++ [.portDown p] }) ∧
        ((portOf s p).receiving = true →
          exec (.linkLoss p) s =
            .next
              { s with
                ports :=
                  setPerPort s.ports p
                    { portOf s p with
                      up := false
                      receiving := false
                      counters := { (portOf s p).counters with truncated := bump (portOf s p).counters.truncated }
                      errorFlag := true }
                requests := s.requests ++ portErrorNotice p (portOf s p) ++ [.portDown p] }))

/-- BLOCK_START and FRAMING_FAULT (R10, R12, R18), and all reception events in DOWN (R9). -/
def Obligations.ReceptionEvents : Prop :=
  ∀ (p : PortId) (s : State),
    ((portOf s p).up = false →
      exec (.blockStart p) s = .next s ∧ exec (.framingFault p) s = .next s ∧
        ∀ ws, exec (.blockComplete p ws) s = .next s) ∧
    ((portOf s p).up = true → (portOf s p).receiving = false →
      exec (.blockStart p) s = .next { s with ports := setPerPort s.ports p { portOf s p with receiving := true } } ∧
        exec (.framingFault p) s = .next s) ∧
    ((portOf s p).up = true → (portOf s p).receiving = true →
      ∀ (c : Instr) (opens : Bool), (c, opens) ∈ [(.blockStart p, true), (.framingFault p, false)] →
        exec c s =
          .next
            { s with
              ports :=
                setPerPort s.ports p
                  { portOf s p with
                    receiving := opens
                    counters := { (portOf s p).counters with truncated := bump (portOf s p).counters.truncated }
                    errorFlag := true }
              requests := s.requests ++ portErrorNotice p (portOf s p) })

/-- BLOCK_COMPLETE in UP of a block that fails a check (R13, R14, R18): the first failing check names the counter, and the block
leaves no other trace. -/
def Obligations.BadBlockIsCounted : Prop :=
  ∀ (p : PortId) (ws : List Word) (s : State), (portOf s p).up = true →
    let n := (ws.getD 5 0).toNat
    let lengthPasses := 6 ≤ ws.length ∧ n ≤ 256 ∧ ws.length = 7 + n
    let crcPasses := crc (ws.take (6 + n)) = ws.getD (6 + n) 0
    let kindPasses :=
      ((ws.getD 0 0).extractLsb' 12 4 = 1 ∧ ws.getD 1 0 ≠ 0 ∧ ws.getD 1 0 ≠ 0xFFFF) ∨
        ((ws.getD 0 0).extractLsb' 12 4 = 2 ∧ ws.getD 1 0 = 0)
    (¬ lengthPasses →
      exec (.blockComplete p ws) s =
        .next
          { s with
            ports :=
              setPerPort s.ports p (portAfterBadBlock (fun c => { c with length := bump c.length }) (portOf s p))
            requests := s.requests ++ portErrorNotice p (portOf s p) }) ∧
    (lengthPasses → ¬ crcPasses →
      exec (.blockComplete p ws) s =
        .next
          { s with
            ports := setPerPort s.ports p (portAfterBadBlock (fun c => { c with crc := bump c.crc }) (portOf s p))
            requests := s.requests ++ portErrorNotice p (portOf s p) }) ∧
    (lengthPasses → crcPasses → ¬ kindPasses →
      exec (.blockComplete p ws) s =
        .next
          { s with
            ports := setPerPort s.ports p (portAfterBadBlock (fun c => { c with kind := bump c.kind }) (portOf s p))
            requests := s.requests ++ portErrorNotice p (portOf s p) })

/-- A block laid out as R2 states with the CRC of R3 is received with every field, whatever its reserved bits (R1): a media block
into the receive buffer, or dropped as overflow when the buffer is full (R16); a control block offered with its port, its
sequence and its payload (R15). -/
def Obligations.GoodBlockKeepsEveryField : Prop :=
  ∀ (p : PortId) (s : State) (w0 flow seq ptsHigh ptsLow : Word) (payload : List Word),
    (portOf s p).up = true → payload.length ≤ 256 →
    let body := [w0, flow, seq, ptsHigh, ptsLow, BitVec.ofNat 16 payload.length] ++ payload
    let block := body ++ [crc body]
    let x := portOf s p
    let counters := { x.counters with completed := bump x.counters.completed }
    let m : Media :=
      { flow := flow, seq := seq, pts := ptsHigh ++ ptsLow, marker := w0.getLsbD 1, disc := w0.getLsbD 0
        payload := payload }
    (w0.extractLsb' 12 4 = 1 → flow ≠ 0 → flow ≠ 0xFFFF → x.buffer.length < 2 →
      exec (.blockComplete p block) s =
        .next
          { s with
            ports :=
              setPerPort s.ports p
                { x with
                  receiving := false
                  counters := { counters with mediaGood := bump counters.mediaGood }
                  buffer := x.buffer ++ [m] } }) ∧
    (w0.extractLsb' 12 4 = 1 → flow ≠ 0 → flow ≠ 0xFFFF → 2 ≤ x.buffer.length →
      exec (.blockComplete p block) s =
        .next
          { s with
            ports :=
              setPerPort s.ports p
                { x with
                  receiving := false
                  counters :=
                    { counters with mediaGood := bump counters.mediaGood, overflow := bump counters.overflow }
                  errorFlag := true }
            requests := s.requests ++ portErrorNotice p x }) ∧
    (w0.extractLsb' 12 4 = 2 → flow = 0 →
      exec (.blockComplete p block) s =
        .next
          { s with
            ports :=
              setPerPort s.ports p
                { x with
                  receiving := false
                  counters := { counters with controlGood := bump counters.controlGood } }
            offers := s.offers ++ [{ port := p, seq := seq, payload := payload }] })

/-- The CRC of R3 tells two lists of words apart that differ in one word: one damaged word never passes the CRC check. -/
def Obligations.CrcDetectsOneDamagedWord : Prop :=
  ∀ (before behind : List Word) (sent received : Word), sent ≠ received →
    crc (before ++ [sent] ++ behind) ≠ crc (before ++ [received] ++ behind)

/-! ## Flow classifier and placement -/

/-- A take by the arbiter's choice (R23, R24) of a block of no entry's flow, or by a port outside the entry's set (R27, R45): the
block is counted and discarded. With both buffers empty there is no take. -/
def Obligations.TakeDiscardsUnservedFlows : Prop :=
  (∀ s : State, s.ports.a.buffer = [] → s.ports.b.buffer = [] → exec .take s = .next s) ∧
    ∀ (s : State) (p : PortId) (m : Media) (rest : List Media), served s p → (portOf s p).buffer = m :: rest →
      (findFlow m.flow s.classifier.table = none →
        exec .take s =
          .next
            { s with
              ports := setPerPort s.ports p { portOf s p with buffer := rest }
              classifier :=
                { s.classifier with
                  lastServed := p
                  unknown := setPerPort s.classifier.unknown p (bump (perPort s.classifier.unknown p)) } }) ∧
      ∀ e, findFlow m.flow s.classifier.table = some e → inSet e.ports p = false →
        exec .take s =
          .next
            { s with
              ports := setPerPort s.ports p { portOf s p with buffer := rest }
              classifier :=
                { s.classifier with
                  lastServed := p
                  table :=
                    s.classifier.table.map fun y =>
                      if y.flow = e.flow then
                        { e with counters := { e.counters with wrongPort := bump e.counters.wrongPort } }
                      else y } }

/-- A take that resyncs the entry: the first block of an ARMED or SILENT entry (R29), a DISC block that is no duplicate (R33), and
the eighth stale block of a run (R32). H is the block's sequence, its mark alone is set, the block is evidence for its path
(R28), and its notices are requested in step order (R27), those of placement, of the classes STORE and LANE, behind them. Outside
the entry, the port and what placement does to lanes and store nothing changes. -/
def Obligations.TakeResyncs : Prop :=
  ∀ (s : State) (p : PortId) (m : Media) (rest : List Media) (e : FlowEntry), takes s p m rest e →
    let h := e.high.getD 0
    let d := (m.seq - h).toNat
    let inWindow := d = 0 ∨ (32768 ≤ d ∧ 65536 - d ≤ 31 ∧ e.window.getLsbD (65536 - d) = true)
    let isFirst := e.state ≠ .live
    let isDisc := e.state = .live ∧ m.disc = true ∧ ¬ inWindow
    let isEighth := e.state = .live ∧ m.disc = false ∧ 32768 ≤ d ∧ 32 ≤ 65536 - d ∧ e.staleRun = 7
    isFirst ∨ isDisc ∨ isEighth →
      ∃ t e', exec .take s = .next t ∧ t = takenWith p rest e e' s t ∧
        findFlow m.flow t.classifier.table = some e' ∧ (∀ q, marked e' q = decide (q = m.seq)) ∧
        e' =
          { e with
            state := .live, paths := setPerPort e.paths p { up := true, silence := 0 }, high := some m.seq
            window := e'.window, staleRun := 0
            counters :=
              { e.counters with
                accepted := bump e.counters.accepted
                resyncs := if e.state = .live then bump e.counters.resyncs else e.counters.resyncs
                unplaced := e'.counters.unplaced } } ∧
        ∃ more, (∀ n ∈ more, noticeClass n = 3 ∨ noticeClass n = 4) ∧
          t.requests =
            s.requests ++
              (if e.state = .live ∧ e.ports = .both ∧ (perPort e.paths p).up = false ∧
                  (perPort e.paths (otherPort p)).up = true then [.pathUp e.flow p] else []) ++
              (if e.state = .silent then [.flowResumed e.flow]
                else if e.state = .armed then []
                else if m.disc then [.flowResync e.flow .disc] else [.flowResync e.flow .staleRun]) ++
              more

/-- A take of a block without DISC that is ahead of H (R30) or recovered inside the window (R31): it is accepted, its mark is
set, the marks of the other sequences are those that were set and still lie in the window, and it is evidence for its path
(R28); the notices behind its own are placement's, of the classes STORE and LANE. Outside the entry, the port and what placement
does to lanes and store nothing changes. -/
def Obligations.TakeAdvancesOrRecovers : Prop :=
  ∀ (s : State) (p : PortId) (m : Media) (rest : List Media) (e : FlowEntry) (h : Word), takes s p m rest e →
    e.state = .live → e.high = some h → m.disc = false →
    let d := (m.seq - h).toNat
    let paths := setPerPort e.paths p { up := true, silence := 0 }
    let pathUp : List Notice :=
      if e.ports = .both ∧ (perPort e.paths p).up = false ∧ (perPort e.paths (otherPort p)).up = true then
        [.pathUp e.flow p] else []
    (1 ≤ d → d ≤ 32767 →
      ∃ t e' more, exec .take s = .next t ∧ t = takenWith p rest e e' s t ∧
        findFlow m.flow t.classifier.table = some e' ∧ (∀ n ∈ more, noticeClass n = 3 ∨ noticeClass n = 4) ∧
        (∀ q, marked e' q = (decide (q = m.seq) || (marked e q && decide ((m.seq - q).toNat ≤ 31)))) ∧
        e' =
          { e with
            paths := paths, high := some m.seq, window := e'.window, staleRun := 0
            counters :=
              { e.counters with
                accepted := bump e.counters.accepted
                gaps := satAdd e.counters.gaps (d - 1)
                unplaced := e'.counters.unplaced }
            gapFlag := e.gapFlag || decide (1 < d) } ∧
        t.requests =
          s.requests ++ pathUp ++
            (if 1 < d ∧ e.gapFlag = false then [.flowGap e.flow (BitVec.ofNat 16 (d - 1))] else []) ++ more) ∧
    (32768 ≤ d → 65536 - d ≤ 31 → e.window.getLsbD (65536 - d) = false →
      ∃ t e' more, exec .take s = .next t ∧ t = takenWith p rest e e' s t ∧
        findFlow m.flow t.classifier.table = some e' ∧ (∀ n ∈ more, noticeClass n = 3 ∨ noticeClass n = 4) ∧
        (∀ q, marked e' q = (decide (q = m.seq) || marked e q)) ∧
        e' =
          { e with
            paths := paths, window := e'.window, staleRun := 0
            counters :=
              { e.counters with
                accepted := bump e.counters.accepted
                recovered := bump e.counters.recovered
                unplaced := e'.counters.unplaced } } ∧
        t.requests = s.requests ++ pathUp ++ more)

/-- A take of a duplicate (R30, R31, R33) or of a stale block that does not end its run (R32): it is counted and discarded, it is
evidence for its path (R28), and lanes and store do not change. -/
def Obligations.TakeDuplicateOrStale : Prop :=
  ∀ (s : State) (p : PortId) (m : Media) (rest : List Media) (e : FlowEntry) (h : Word), takes s p m rest e →
    e.state = .live → e.high = some h →
    let d := (m.seq - h).toNat
    let after (e' : FlowEntry) : State :=
      { s with
        ports := setPerPort s.ports p { portOf s p with buffer := rest }
        classifier :=
          { s.classifier with
            lastServed := p
            table := s.classifier.table.map fun y => if y.flow = e.flow then e' else y }
        requests :=
          s.requests ++
            if e.ports = .both ∧ (perPort e.paths p).up = false ∧ (perPort e.paths (otherPort p)).up = true then
              [.pathUp e.flow p] else [] }
    let paths := setPerPort e.paths p { up := true, silence := 0 }
    ((d = 0 ∨ (32768 ≤ d ∧ 65536 - d ≤ 31 ∧ e.window.getLsbD (65536 - d) = true)) →
      exec .take s =
        .next
          (after
            { e with
              paths := paths
              counters := { e.counters with duplicates := bump e.counters.duplicates } })) ∧
    (m.disc = false → 32768 ≤ d → 32 ≤ 65536 - d → e.staleRun ≤ 6 →
      exec .take s =
        .next
          (after
            { e with
              paths := paths
              staleRun := e.staleRun + 1
              counters := { e.counters with stale := bump e.counters.stale } }))

/-- Placement of an accepted block for which lanes pass and the store has room (R50, R56, R57, R59, R77, R79): one record with one
holder for each passing lane; each passing lane gets one entry, behind every entry at most as far from its datum; the other
lanes' queues do not change. Nothing changes but the port, the flow's entry, the store, the lanes and the requests. -/
def Obligations.PlacementInsertsEntries : Prop :=
  ∀ (s : State) (p : PortId) (m : Media) (rest : List Media) (e : FlowEntry), takes s p m rest e → accepts m e →
    StoreOk s → (∃ l, passes s.time.tb m (laneOf s l)) → 1 ≤ s.store.freeRecords →
    (m.payload.length + 31) / 32 ≤ s.store.freeCells →
      ∃ t e' ref before behind k, exec .take s = .next t ∧ t = takenWith p rest e e' s t ∧
        s.store.records = before ++ behind ∧ (∀ r ∈ s.store.records, r.ref ≠ ref) ∧
        t.store =
          { records := before ++ [{ ref := ref, payload := m.payload, holders := k }] ++ behind
            freeCells := s.store.freeCells - (m.payload.length + 31) / 32
            freeRecords := s.store.freeRecords - 1
            fullFlag := s.store.fullFlag } ∧
        (∃ lanes : List LaneId, lanes.Nodup ∧ lanes.length = k ∧ ∀ l, l ∈ lanes ↔ passes s.time.tb m (laneOf s l)) ∧
        ∀ l : LaneId,
          let x := laneOf s l
          let release := m.pts + x.config.offset - x.config.delay
          let entry : Entry :=
            { block := ref, flow := m.flow, seq := m.seq, pts := m.pts, release := release, marker := m.marker
              disc := m.disc, port := p, cells := (m.payload.length + 31) / 32 }
          (¬ passes s.time.tb m x → (laneOf t l).queue = x.queue) ∧
            (passes s.time.tb m x →
              ∃ ahead after, x.queue = ahead ++ after ∧ laneOf t l = { x with queue := ahead ++ [entry] ++ after } ∧
                (∀ y ∈ ahead, distance x.datum y.release ≤ distance x.datum release) ∧
                ∀ y ∈ after.head?.toList, distance x.datum release < distance x.datum y.release)

/-- What placement counts and announces (R53, R57..R60): every candidate lane counts its first failing test; when lanes pass and the
store has no room they count refused_store and the store-full flag is set; when none passes the flow counts the block as
unplaced. A refusal for lack of room sets the REFUSED flag and, the flag clear before, requests LANE_REFUSED: QUEUE and QUOTA in
lane order, then STORE_FULL, its flag clear before, then STORE in lane order. All of them follow the classifier's own notices (R28..R33). -/
def Obligations.PlacementCountsRefusals : Prop :=
  ∀ (s : State) (p : PortId) (m : Media) (rest : List Media) (e : FlowEntry), takes s p m rest e → accepts m e →
    let tb := s.time.tb
    let cells := (m.payload.length + 31) / 32
    let hasRoom := 1 ≤ s.store.freeRecords ∧ cells ≤ s.store.freeCells
    let fromTests (l : LaneId) : List Notice :=
      let x := laneOf s l
      if x.refused = false ∧ candidate m x ∧ refusedQueueFull tb m x then [.laneRefused l .queue]
      else if x.refused = false ∧ candidate m x ∧ refusedQuota tb m x then [.laneRefused l .quota]
      else []
    let fromStore (l : LaneId) : List Notice :=
      if (laneOf s l).refused = false ∧ passes tb m (laneOf s l) then [.laneRefused l .store] else []
    let ofFlow := flowNotices p m e
    ∃ t e', exec .take s = .next t ∧ t = takenWith p rest e e' s t ∧ findFlow m.flow t.classifier.table = some e' ∧
      ((∀ l, ¬ passes tb m (laneOf s l)) →
        t.store = s.store ∧ e'.counters.unplaced = bump e.counters.unplaced) ∧
      ((∃ l, passes tb m (laneOf s l)) →
        e'.counters.unplaced = e.counters.unplaced ∧ (¬ hasRoom → t.store = { s.store with fullFlag := true })) ∧
      ((∀ l, ¬ passes tb m (laneOf s l)) ∨ hasRoom →
        t.requests = s.requests ++ ofFlow ++ (List.finRange 16).flatMap fromTests) ∧
      ((∃ l, passes tb m (laneOf s l)) → ¬ hasRoom →
        t.requests =
          s.requests ++ ofFlow ++ (List.finRange 16).flatMap fromTests ++
            (if s.store.fullFlag then []
              else [.storeFull (BitVec.ofNat 16 s.store.freeCells) (BitVec.ofNat 16 s.store.freeRecords)]) ++
            (List.finRange 16).flatMap fromStore) ∧
      ∀ l : LaneId,
        let x := laneOf s l
        let c := x.counters
        (¬ candidate m x → laneOf t l = x) ∧
        (candidate m x → refusedLate m x → laneOf t l = { x with counters := { c with late := bump c.late } }) ∧
        (candidate m x → refusedEarly tb m x → laneOf t l = { x with counters := { c with early := bump c.early } }) ∧
        (candidate m x → refusedQueueFull tb m x →
          laneOf t l = { x with counters := { c with refusedQueue := bump c.refusedQueue }, refused := true }) ∧
        (candidate m x → refusedQuota tb m x →
          laneOf t l = { x with counters := { c with refusedQuota := bump c.refusedQuota }, refused := true }) ∧
        (passes tb m x → hasRoom → laneOf t l = { x with queue := (laneOf t l).queue }) ∧
        (passes tb m x → ¬ hasRoom →
          laneOf t l = { x with counters := { c with refusedStore := bump c.refusedStore }, refused := true })

/-- WATCH_SWEEP with an expiry of the sweep timer to serve (R35, R36, R37): the sweep number advances; in every entry whose lapse
limit is not 0 each UP path counts and lapses at the limit; a LIVE entry all of whose paths are DOWN becomes SILENT; the
notices are requested in table order. Nothing else changes. That with lapse limit 1 a path just taken from goes DOWN at the next
sweep, as R36 says and the first row of R38 does not, is the model's choice (log entry 23). -/
def Obligations.WatchSweepLapsesPaths : Prop :=
  ∀ s : State, 0 < s.classifier.sweepsDue →
    let path (e : FlowEntry) (x : Path) : Path :=
      if e.lapse ≠ 0 ∧ x.up = true then
        { up := decide (min (x.silence.toNat + 1) 255 < e.lapse.toNat)
          silence := BitVec.ofNat 8 (min (x.silence.toNat + 1) 255) }
      else x
    let fallsSilent (e : FlowEntry) : Bool :=
      decide (e.state = .live) && decide (e.lapse ≠ 0) && !(path e e.paths.a).up && !(path e e.paths.b).up
    let entry (e : FlowEntry) : FlowEntry :=
      { e with
        paths := { a := path e e.paths.a, b := path e e.paths.b }
        state := if fallsSilent e then .silent else e.state }
    let notices (e : FlowEntry) : List Notice :=
      if fallsSilent e then [.flowSilent e.flow]
      else if e.state = .live ∧ e.ports = .both ∧ e.paths.a.up = true ∧ (path e e.paths.a).up = false then
        [.pathDown e.flow .a]
      else if e.state = .live ∧ e.ports = .both ∧ e.paths.b.up = true ∧ (path e e.paths.b).up = false then
        [.pathDown e.flow .b]
      else []
    exec .watchSweep s =
      .next
        { s with
          classifier :=
            { s.classifier with
              table := s.classifier.table.map entry
              sweepNumber := s.classifier.sweepNumber + 1
              sweepsDue := s.classifier.sweepsDue - 1 }
          requests := s.requests ++ s.classifier.table.flatMap notices }

/-- TB_TICK, one REFCLK period (R63, R35, R88): TB counts in both states and wraps; the sweep timer counts and every 65,536 ticks
an expiry falls due; a frame in transmission is one tick older until it is complete. Nothing else changes. That the three
count in one command is the model's choice (log entry 7). -/
def Obligations.TickCounts : Prop :=
  ∀ s : State,
    ∃ t, exec .tbTick s = .next t ∧
      t =
        { s with
          time := { s.time with tb := s.time.tb + 1 }
          classifier :=
            { s.classifier with
              sweepTimer := s.classifier.sweepTimer + 1
              sweepsDue := s.classifier.sweepsDue + if s.classifier.sweepTimer = 65535 then 1 else 0 }
          lanes := t.lanes } ∧
      ∀ l : LaneId,
        laneOf t l =
          { laneOf s l with
            frame :=
              (laneOf s l).frame.map fun f =>
                { f with elapsed := min (f.elapsed + 1) ((8 + f.length) * f.divisor.toNat) } }

/-! ## Lane schedulers -/

/-- What every due slot event does, whatever the state (R81, R83, R88, R90, R93): the grid advances by the cadence, one of presented,
repeated and filled is counted, a frame begins with the slot time and the state after presentation, or the frame in
transmission makes the slot an overrun. Nothing but the lane, the store and the requests changes; in the store no payload changes,
and no block but those of the lane's entries and its unit (R51, R52). -/
def Obligations.SlotKeepsGridAndCounts : Prop :=
  ∀ (s : State) (l : LaneId), slotIsDue s l → 1 ≤ (laneOf s l).config.cd.toNat →
    let x := laneOf s l
    let c := x.counters
    let total := x.remainder.toNat + x.config.cn.toNat
    ∃ t, exec (.slotEvent l) s = .next t ∧
      t = { s with lanes := t.lanes, store := t.store, requests := t.requests } ∧
      (∀ k, k ≠ l → laneOf t k = laneOf s k) ∧
      (∀ r ∈ t.store.records, ∃ q ∈ s.store.records, q.ref = r.ref ∧ q.payload = r.payload) ∧
      (∀ ref, (∀ e ∈ x.queue ++ x.held.toList, e.block ≠ ref) →
        t.store.records.find? (fun r => r.ref == ref) = s.store.records.find? fun r => r.ref == ref) ∧
      let y := laneOf t l
      y.config = x.config ∧ y.nextSlot = x.nextSlot + BitVec.ofNat 32 (total / x.config.cd.toNat) ∧
        y.remainder.toNat = total % x.config.cd.toNat ∧
        ((y.counters.presented = bump c.presented ∧ y.counters.repeated = c.repeated ∧ y.counters.filled = c.filled) ∨
          (y.counters.presented = c.presented ∧ y.counters.repeated = bump c.repeated ∧ y.counters.filled = c.filled) ∨
          (y.counters.presented = c.presented ∧ y.counters.repeated = c.repeated ∧ y.counters.filled = bump c.filled)) ∧
        (x.frame = none →
          y.counters.overruns = c.overruns ∧ y.overrun = x.overrun ∧
            ∃ f, y.frame = some f ∧ f.slot = x.nextSlot ∧ f.lstate = y.state ∧ f.divisor = x.config.divisor ∧
              f.elapsed = 0) ∧
        (∀ f, x.frame = some f →
          y.frame = some f ∧ y.counters.overruns = bump c.overruns ∧ y.overrun = true)

/-- The command stage (R109, R110): a slot takes one command at most, from the head; RUN and HOLD leave the lane RUNNING and HELD;
STOP sets the stop mode and the lane drains, or parks when its queue is empty (R116, R117). A change of state requests
LANE_STATE before everything else of the slot (R83, R99). -/
def Obligations.SlotTakesOneCommand : Prop :=
  ∀ (s : State) (l : LaneId), slotIsDue s l →
    (laneOf s l).state ∈ [LaneState.running, .held, .stepping, .seeking, .cueing] →
    let x := laneOf s l
    (x.commands = [] → ∃ t, exec (.slotEvent l) s = .next t ∧ (laneOf t l).commands = []) ∧
    ∀ (c : Command) (rest : List Command), x.commands = c :: rest →
      let new : LaneState :=
        match c with
        | .run => .running
        | .hold => .held
        | .step => .stepping
        | .seek => .seeking
        | .cue => .cueing
        | .stop _ => .draining
      ∃ t more, exec (.slotEvent l) s = .next t ∧ (laneOf t l).commands = rest ∧ (laneOf t l).last = x.last ∧
        t.requests = s.requests ++ (if new = x.state then [] else [.laneState l x.state new]) ++ more ∧
        (c = .run → (laneOf t l).state = .running) ∧ (c = .hold → (laneOf t l).state = .held) ∧
        (∀ mode, c = .stop mode →
          (laneOf t l).stopMode = some mode ∧
            (laneOf t l).state = if x.queue = [] then .parked else .draining) ∧
        ((∀ mode, c ≠ .stop mode) → (laneOf t l).stopMode = x.stopMode)

/-- Presentation by time (R84..R87, R114, R116, R119), in the state the command stage leaves (R109): in RUNNING, in SEEKING without an
eligible marker, and in DRAINING with a queue. The last entry of the eligible prefix is selected and the others of the prefix
are skipped, and they and the old unit are released (R52); with an empty prefix the held unit repeats or fill is sent, and
LANE_UNDERRUN is requested when its flag is clear. The frame's block gains a holder (R51). -/
def Obligations.SlotPresentsByTime : Prop :=
  ∀ (s : State) (l : LaneId) (ahead behind : List Entry), slotIsDue s l →
    let x := commanded (laneOf s l)
    x.queue = ahead ++ behind → (∀ e ∈ ahead, atOrBefore e.release x.nextSlot) →
    (∀ e ∈ behind.head?.toList, ¬ atOrBefore e.release x.nextSlot) →
    (x.state = .running ∨ (x.state = .seeking ∧ ∀ e ∈ ahead, e.marker = false) ∨ (x.state = .draining ∧ x.queue ≠ [])) →
    (∀ skipped e, ahead = skipped ++ [e] →
      slotGives s l (selecting e behind skipped.length x) (skipped ++ x.held.toList) [] (unitFrameOf e)) ∧
    (ahead = [] →
      slotGives s l { x with counters := shownAgain x, underrun := true } []
        (if x.underrun then [] else [.laneUnderrun l]) (againFrame x))

/-- HELD keeps its unit and skips all but the last eligible entry (R112); STEPPING shows the head of the queue, eligible or not,
with the entries of its release time gone with it, and goes HELD; with an empty queue its step stays pending (R111, R113).
Neither raises LANE_UNDERRUN (R119). The state is the one the command stage leaves (R109, R110). -/
def Obligations.SlotInHeldAndStepping : Prop :=
  ∀ (s : State) (l : LaneId), slotIsDue s l →
    let x := commanded (laneOf s l)
    (x.state = .held → ∀ ahead behind, x.queue = ahead ++ behind → (∀ e ∈ ahead, atOrBefore e.release x.nextSlot) →
      (∀ e ∈ behind.head?.toList, ¬ atOrBefore e.release x.nextSlot) →
      slotGives s l
        { x with
          queue := ahead.getLast?.toList ++ behind
          counters := { shownAgain x with skipped := satAdd x.counters.skipped (ahead.length - 1) } }
        ahead.dropLast [] (againFrame x)) ∧
    (x.state = .stepping → x.queue = [] → slotGives s l { x with counters := shownAgain x } [] [] (againFrame x)) ∧
    (x.state = .stepping → ∀ e rest, x.queue = e :: rest →
      let gone := rest.filter fun z => z.release = e.release
      slotGives s l
        { selecting e (rest.filter fun z => z.release ≠ e.release) gone.length x with state := .held }
        (gone ++ x.held.toList) [.laneState l .stepping .held] (unitFrameOf e))

/-- SEEKING and CUEING with a marker in the eligible prefix select the first marked entry and go HELD and RUNNING; entries ahead of
it, and behind it with its release time, are skipped (R111, R114, R115). CUEING without one skips the whole prefix and keeps
its unit, without LANE_UNDERRUN (R115, R119). The state is the one the command stage leaves (R109, R110). -/
def Obligations.SlotInSeekingAndCueing : Prop :=
  ∀ (s : State) (l : LaneId), slotIsDue s l →
    let x := commanded (laneOf s l)
    (∀ new, (x.state = .seeking ∧ new = LaneState.held) ∨ (x.state = .cueing ∧ new = .running) →
      ∀ ahead e rest, x.queue = ahead ++ [e] ++ rest →
      (∀ z ∈ ahead, atOrBefore z.release x.nextSlot ∧ z.marker = false) → atOrBefore e.release x.nextSlot →
      e.marker = true →
      let gone := ahead ++ rest.filter fun z => z.release = e.release
      slotGives s l
        { selecting e (rest.filter fun z => z.release ≠ e.release) gone.length x with state := new }
        (gone ++ x.held.toList) [.laneState l x.state new] (unitFrameOf e)) ∧
    (x.state = .cueing → ∀ ahead behind, x.queue = ahead ++ behind →
      (∀ z ∈ ahead, atOrBefore z.release x.nextSlot ∧ z.marker = false) →
      (∀ z ∈ behind.head?.toList, ¬ atOrBefore z.release x.nextSlot) →
      slotGives s l
        { x with
          queue := behind
          counters := { shownAgain x with skipped := satAdd x.counters.skipped ahead.length } }
        ahead [] (againFrame x))

/-- A DRAINING lane with an empty queue parks by its stop mode: LAST keeps the unit, FILL releases it (R117), at once when its STOP is
taken at this slot (R109, R116); a PARKED lane repeats its unit or fills at every slot (R118). Neither raises LANE_UNDERRUN
(R119). -/
def Obligations.SlotInDrainingAndParked : Prop :=
  ∀ (s : State) (l : LaneId), slotIsDue s l →
    let x := commanded (laneOf s l)
    (x.state = .draining → x.queue = [] → ∀ mode, x.stopMode = some mode →
      let y : Lane := { x with state := .parked, held := if mode = .last then x.held else none }
      slotGives s l { y with counters := shownAgain y } (if mode = .last then [] else x.held.toList)
        [.laneState l .draining .parked] (againFrame y)) ∧
    (x.state = .parked → slotGives s l { x with counters := shownAgain x } [] [] (againFrame x))

/-- FRAME_COMPLETION when (8 + FLEN) × W ticks have passed (R88, R89): the lane has no frame in transmission, and the block it held
loses a holder; the last holder frees the block's record and cells (R52), and a free at both thresholds clears the store-full
flag with STORE_RECOVERED (R53). Nothing else changes. Until then the lane output sends the eight header words of R8 and the
payload or the fill words, word k leaving k × W ticks after the slot event; without a frame it is quiet. -/
def Obligations.FrameCompletionReleasesBlock : Prop :=
  ∀ (s : State) (l : LaneId),
    ((laneOf s l).frame = none → laneOutput s l = none ∧ exec (.frameCompletion l) s = .next s) ∧
    ∀ f : Frame, (laneOf s l).frame = some f →
      let ticks := (8 + f.length) * f.divisor.toNat
      let kind : Nat :=
        match f.kind with
        | .unitFrame => 1
        | .repeatFrame => 2
        | .fillFrame => 3
      let words : List Word :=
        [BitVec.ofNat 16
            (kind * 4096 + laneStateCode f.lstate * 16 + (if f.marker then 2 else 0) + if f.disc then 1 else 0),
          f.flow, f.seq, f.slot.extractLsb' 16 16, f.slot.extractLsb' 0 16, f.upts.extractLsb' 16 16,
          f.upts.extractLsb' 0 16, BitVec.ofNat 16 f.length] ++
        match f.block with
        | none => List.replicate f.length f.fillWord
        | some ref => blockPayload s.store ref
      let lanes := s.lanes.set l { laneOf s l with frame := none }
      laneFrameWords s l = words ∧
      (f.elapsed < ticks →
        exec (.frameCompletion l) s = .next s ∧
          ∀ k, (f.elapsed = k * f.divisor.toNat → laneOutput s l = words[k]?) ∧
            (k * f.divisor.toNat < f.elapsed → f.elapsed < (k + 1) * f.divisor.toNat → laneOutput s l = none)) ∧
      (ticks ≤ f.elapsed →
        laneOutput s l = none ∧
        (f.block = none → exec (.frameCompletion l) s = .next { s with lanes := lanes }) ∧
        ∀ ref r, f.block = some ref → s.store.records.find? (fun y => y.ref == ref) = some r →
          (2 ≤ r.holders →
            exec (.frameCompletion l) s =
              .next
                { s with
                  lanes := lanes
                  store :=
                    { s.store with
                      records :=
                        s.store.records.map fun y => if y.ref = ref then { y with holders := y.holders - 1 } else y } }) ∧
          (r.holders ≤ 1 →
            let cells := s.store.freeCells + (r.payload.length + 31) / 32
            let records := s.store.freeRecords + 1
            let recovers := s.store.fullFlag = true ∧ 128 ≤ cells ∧ 64 ≤ records
            exec (.frameCompletion l) s =
              .next
                { s with
                  lanes := lanes
                  store :=
                    { records := s.store.records.filter fun y => y.ref ≠ ref
                      freeCells := cells
                      freeRecords := records
                      fullFlag := if recovers then false else s.store.fullFlag }
                  requests :=
                    s.requests ++
                      if recovers then [.storeRecovered (BitVec.ofNat 16 cells) (BitVec.ofNat 16 records)] else [] }))

/-! ## Directives of the device and the ports -/

/-- ECHO answers OK with its parameters, NO_ROOM when they exceed the room, and changes nothing; the walk of R4 gives no envelope
more than 64 parameters. -/
def Obligations.EchoAnswers : Prop :=
  (∀ (ps : List Word) (s : State), mayIssue .echo ps s →
    (ps.length ≤ roomFor s → exec (.echo ps) s = .next (answered .echo .ok ps s)) ∧
      (roomFor s < ps.length → exec (.echo ps) s = .next (answered .echo .noRoom [] s))) ∧
    ∀ (payload : List Word) (es : List Envelope) (e : Envelope), envelopesOf payload = some es → e ∈ es →
      e.params.length ≤ 64

/-- UNIT_READ asks its owners in turn, in word order, each figure that of its owner when asked (R143): in each step some more give
theirs, until the last has and the 25 words are answered, or NO_ROOM when they exceed the room. The store gives its free figures in one
request (R49), the classifier its two counts (R22). In one step with nobody asked before, all figures are of one state. Its depth
query waits while an expiry is in service (R165). TIME_READ gives its three words in
one. Neither changes anything else. How the owners share out the steps is the surroundings' choice (log entries 6 and 9). While the
control unit asks, it issues nothing else (R129). -/
def Obligations.DeviceReads : Prop :=
  ∀ s : State,
    (∀ q i e, s.control.inquiry = some q → envelopeOf i = some e → e ≠ q.envelope → exec i s = .next s) ∧
    (mayIssue .unitRead [] s →
      let k := s.control.counters
      let figures : List (List Word) :=
        [[0x0416, 1, BitVec.ofNat 16 ((s.control.group.getD 0).toNat * 256 + s.control.unitAddr.toNat)],
          [if s.time.isSet then 32768 else 0], [if s.store.fullFlag then 16384 else 0],
          [if s.control.overrunFlag then 8192 else 0], [BitVec.ofNat 16 s.store.freeCells, BitVec.ofNat 16 s.store.freeRecords],
          [BitVec.ofNat 16 s.scheduler.list.length],
          [BitVec.ofNat 16 ((if s.reports.reserved then 32768 else 0) + s.reports.queue.length)],
          [BitVec.ofNat 16 s.control.intake.length], twoWords k.notMine, twoWords k.twins, twoWords k.retries,
          twoWords k.retriesDropped, twoWords k.overrun,
          twoWords s.classifier.unknown.a ++ twoWords s.classifier.unknown.b, [BitVec.ofNat 16 (256 + s.reports.mask.toNat)], [s.reports.suppressed]]
      let asked := askedSoFar s
      let n := answersNow 16 (if s.scheduler.service ≠ none ∧ asked ≤ 5 then 5 else 16) s
      let given := givenSoFar s ++ ((figures.drop asked).take n).flatten
      (asked + n < 16 →
        exec (.unitRead []) s =
          .next (inquiring (some { envelope := tableEnvelope .unitRead [], asked := asked + n, words := given }) s)) ∧
      (16 ≤ asked + n →
        (InquiryOk s → given.length = 27) ∧
        ∀ code revision address time store overrun rest,
          given = [code, revision, address, time, store, overrun] ++ rest →
          let words := [code, revision, address, time ||| store ||| overrun] ++ rest
          (words.length ≤ roomFor s →
            exec (.unitRead []) s = .next (answered .unitRead .ok words (inquiring none s))) ∧
          (roomFor s < words.length →
            exec (.unitRead []) s = .next (answered .unitRead .noRoom [] (inquiring none s))))) ∧
    (mayIssue .timeRead [] s →
      let words : List Word :=
        [if s.time.isSet then 1 else 0, s.time.tb.extractLsb' 16 16, s.time.tb.extractLsb' 0 16]
      (3 ≤ roomFor s → exec (.timeRead []) s = .next (answered .timeRead .ok words s)) ∧
        (roomFor s < 3 → exec (.timeRead []) s = .next (answered .timeRead .noRoom [] s)))

/-- GROUP_SET and NOTICE_MASK with any parameters: the form stage, the effect, the answer. -/
def Obligations.DeviceSettings : Prop :=
  ∀ (ps : List Word) (s : State),
    (mayIssue .groupSet ps s →
      (ps = [0] →
        exec (.groupSet ps) s =
          .next (answered .groupSet .ok [] { s with control := { s.control with group := none } })) ∧
      (∀ w, ps = [w] → 64 ≤ w.toNat → w.toNat ≤ 254 →
        exec (.groupSet ps) s =
          .next (answered .groupSet .ok [] { s with control := { s.control with group := some (w.setWidth 8) } })) ∧
      ((∀ w, ps = [w] → w ≠ 0 ∧ (w.toNat < 64 ∨ 254 < w.toNat)) →
        exec (.groupSet ps) s = .next (answered .groupSet .badParam [] s))) ∧
    (mayIssue .noticeMask ps s →
      (∀ w, ps = [w] → 1 ≤ roomFor s →
        exec (.noticeMask ps) s =
          .next
            (answered .noticeMask .ok [0x0100 ||| (w &&& 0x00FF)]
              { s with reports := { s.reports with mask := w.setWidth 8 } })) ∧
      (∀ w, ps = [w] → roomFor s = 0 → exec (.noticeMask ps) s = .next (answered .noticeMask .noRoom [] s)) ∧
      (ps.length ≠ 1 → exec (.noticeMask ps) s = .next (answered .noticeMask .badParam [] s)))

/-- PORT_READ (R19) and PORT_ZERO (R20) with any parameters (R146). Each asks the port, then the classifier: the port gives its 17 words
together, the classifier the unknown-flow count when asked after them; the port zeroes its counters and clears its flag when it is
asked, the classifier its count when it is. When both have answered, the directive is answered. Whether they answer in one step or in
two is the surroundings' choice (log entry 9), and that PORT_ZERO asks the port first is the model's reading (log entry 30). -/
def Obligations.PortDirectives : Prop :=
  ∀ (ps : List Word) (s : State),
    (∀ p : PortId, ps = [if p = .a then 0 else 1] →
      let x := portOf s p
      let k := x.counters
      let asked := askedSoFar s
      let n := answersNow 2 2 s
      let going (d : Directive) (words : List Word) : Option Inquiry :=
        some { envelope := tableEnvelope d ps, asked := asked + n, words := words }
      let figures : List (List Word) :=
        [BitVec.ofNat 16
            ((if x.up then 32768 else 0) + (if x.errorFlag then 16384 else 0) + (if x.receiving then 8192 else 0) +
              x.buffer.length) ::
            (twoWords k.completed ++ twoWords k.mediaGood ++ twoWords k.controlGood ++ twoWords k.crc ++
              twoWords k.length ++ twoWords k.kind ++ twoWords k.truncated ++ twoWords k.overflow),
          twoWords (perPort s.classifier.unknown p)]
      (mayIssue .portRead ps s →
        let words := givenSoFar s ++ ((figures.drop asked).take n).flatten
        (asked + n < 2 → exec (.portRead ps) s = .next (inquiring (going .portRead words) s)) ∧
        (2 ≤ asked + n →
          (InquiryOk s → words.length = 19) ∧
            (words.length ≤ roomFor s →
              exec (.portRead ps) s = .next (answered .portRead .ok words (inquiring none s))) ∧
            (roomFor s < words.length →
              exec (.portRead ps) s = .next (answered .portRead .noRoom [] (inquiring none s))))) ∧
      (mayIssue .portZero ps s → givenSoFar s = [] →
        let t : State :=
          { s with
            ports :=
              if asked = 0 ∧ 1 ≤ n then
                setPerPort s.ports p { x with counters := ⟨0, 0, 0, 0, 0, 0, 0, 0⟩, errorFlag := false }
              else s.ports
            classifier :=
              if asked ≤ 1 ∧ 2 ≤ asked + n then
                { s.classifier with unknown := setPerPort s.classifier.unknown p 0 }
              else s.classifier }
        (asked + n < 2 → exec (.portZero ps) s = .next (inquiring (going .portZero []) t)) ∧
        (2 ≤ asked + n → exec (.portZero ps) s = .next (answered .portZero .ok [] (inquiring none t))))) ∧
    (ps ≠ [0] → ps ≠ [1] →
      (mayIssue .portRead ps s → exec (.portRead ps) s = .next (answered .portRead .badParam [] s)) ∧
        (mayIssue .portZero ps s → exec (.portZero ps) s = .next (answered .portZero .badParam [] s)))

/-! ## Directives of the flow table -/

/-- FLOW_READ's 24 words and FLOW_LIST's identifiers, NO_ROOM when the words exceed the room, NO_ENTRY for an absent flow
(R43, R44, R149, R150). Neither changes anything. -/
def Obligations.FlowReads : Prop :=
  ∀ s : State,
    (∀ f : Word, f ≠ 0 → f ≠ 0xFFFF → mayIssue .flowRead [f] s →
      (findFlow f s.classifier.table = none →
        exec (.flowRead [f]) s = .next (answered .flowRead .noEntry [] s)) ∧
      ∀ e, findFlow f s.classifier.table = some e →
        let path (p : PortId) : Word :=
          if inSet e.ports p then
            BitVec.ofNat 16
              (32768 + (if (perPort e.paths p).up then 16384 else 0) + (perPort e.paths p).silence.toNat)
          else 0
        let k := e.counters
        let words : List Word :=
          [f,
            BitVec.ofNat 16
              (flowStateCode e.state * 16384 + portSetCode e.ports * 4096 + (if e.gapFlag then 2048 else 0) +
                (if e.high = none then 0 else 1024) + e.staleRun),
            BitVec.ofNat 16 e.lapse.toNat, path .a, path .b, e.high.getD 0] ++
          twoWords e.window ++ twoWords k.accepted ++ twoWords k.duplicates ++ twoWords k.stale ++ twoWords k.gaps ++
          twoWords k.recovered ++ twoWords k.resyncs ++ twoWords k.wrongPort ++ twoWords k.unplaced
        words.length = 24 ∧
          (24 ≤ roomFor s → exec (.flowRead [f]) s = .next (answered .flowRead .ok words s)) ∧
          (roomFor s < 24 → exec (.flowRead [f]) s = .next (answered .flowRead .noRoom [] s))) ∧
    ∀ start m : Word, 1 ≤ m.toNat → m.toNat ≤ 64 → mayIssue .flowList [start, m] s →
      let ids := (s.classifier.table.map fun e => e.flow).filter fun f => decide (start.toNat ≤ f.toNat)
      let words := ids.take m.toNat
      (words.length ≤ roomFor s → exec (.flowList [start, m]) s = .next (answered .flowList .ok words s)) ∧
        (roomFor s < words.length → exec (.flowList [start, m]) s = .next (answered .flowList .noRoom [] s))

/-- FLOW_SET: a new entry is ARMED and stands in ascending identifier, unless the table holds 64 (R39); an entry that exists keeps
all but its port set, lapse limit and the path records of ports removed or added (R40). -/
def Obligations.FlowSetCreatesOrChanges : Prop :=
  ∀ (s : State) (f w lapse : Word) (ports : PortSet), f ≠ 0 → f ≠ 0xFFFF → lapse.toNat ≤ 255 →
    (ports, w) ∈ [(PortSet.a, (1 : Word)), (.b, 2), (.both, 3)] → mayIssue .flowSet [f, w, lapse] s →
    let withTable (t : List FlowEntry) : State := { s with classifier := { s.classifier with table := t } }
    (∀ e, findFlow f s.classifier.table = some e →
      let path (p : PortId) : Path :=
        if inSet e.ports p = true ∧ inSet ports p = true then perPort e.paths p else { up := false, silence := 0 }
      exec (.flowSet [f, w, lapse]) s =
        .next
          (answered .flowSet .ok []
            (withTable
              (s.classifier.table.map fun y =>
                if y.flow = f then
                  { e with ports := ports, lapse := lapse.setWidth 8, paths := { a := path .a, b := path .b } }
                else y)))) ∧
    (findFlow f s.classifier.table = none → s.classifier.table.length < 64 →
      ∃ before behind, s.classifier.table = before ++ behind ∧ (∀ y ∈ before, y.flow.toNat ≤ f.toNat) ∧
        (∀ y ∈ behind.head?.toList, f.toNat < y.flow.toNat) ∧
        exec (.flowSet [f, w, lapse]) s =
          .next
            (answered .flowSet .ok []
              (withTable
                (before ++
                  [{ flow := f, state := .armed, ports := ports, lapse := lapse.setWidth 8
                     paths := { a := { up := false, silence := 0 }, b := { up := false, silence := 0 } }, high := none
                     window := 0, staleRun := 0, counters := ⟨0, 0, 0, 0, 0, 0, 0, 0⟩, gapFlag := false }] ++
                  behind)))) ∧
    (findFlow f s.classifier.table = none → 64 ≤ s.classifier.table.length →
      exec (.flowSet [f, w, lapse]) s = .next (answered .flowSet .tableFull [] s))

/-- FLOW_CLEAR removes the entry (R41); FLOW_ZERO zeroes its eight counters and clears its GAP flag (R42); each answers NO_ENTRY
for a flow without entry. -/
def Obligations.FlowClearAndZero : Prop :=
  ∀ (s : State) (f : Word), f ≠ 0 → f ≠ 0xFFFF →
    (mayIssue .flowClear [f] s →
      (findFlow f s.classifier.table = none →
        exec (.flowClear [f]) s = .next (answered .flowClear .noEntry [] s)) ∧
      (findFlow f s.classifier.table ≠ none →
        exec (.flowClear [f]) s =
          .next
            (answered .flowClear .ok []
              { s with
                classifier :=
                  { s.classifier with table := s.classifier.table.filter fun y => decide (y.flow ≠ f) } }))) ∧
    (mayIssue .flowZero [f] s →
      (findFlow f s.classifier.table = none →
        exec (.flowZero [f]) s = .next (answered .flowZero .noEntry [] s)) ∧
      ∀ e, findFlow f s.classifier.table = some e →
        exec (.flowZero [f]) s =
          .next
            (answered .flowZero .ok []
              { s with
                classifier :=
                  { s.classifier with
                    table :=
                      s.classifier.table.map fun y =>
                        if y.flow = f then { e with counters := ⟨0, 0, 0, 0, 0, 0, 0, 0⟩, gapFlag := false }
                        else y } }))

/-! ## Directives of a lane -/

/-- LANE_SET on an IDLE lane replaces all nine fields, else it is answered LANE_BUSY (R76); LANE_SOURCE sets the source in every
state and with a cut removes, releases and counts the old source's entries (R92); LANE_ZERO zeroes the counters and clears the
flags (R94). -/
def Obligations.LaneSettings : Prop :=
  ∀ (s : State) (l : LaneId) (lane : Word), lane.toNat = l.val →
    let x := laneOf s l
    let withLane (y : Lane) : State := { s with lanes := s.lanes.set l y }
    (∀ source cnh cnl cd dh dl oh ol quota w fillWord fillLength : Word,
      let ps := [lane, source, cnh, cnl, cd, dh, dl, oh, ol, quota, w, fillWord, fillLength]
      let cn : Tick := cnh ++ cnl
      let d : Tick := dh ++ dl
      let o : Tick := oh ++ ol
      source ≠ 0xFFFF → 1 ≤ cn.toNat → cn.toNat ≤ 16777215 → 1 ≤ cd.toNat → 64 * cd.toNat ≤ cn.toNat →
      d.toNat ≤ 16777215 → -536870912 ≤ o.toInt → o.toInt ≤ 536870911 → quota.toNat ≤ 1024 → 2 ≤ w.toNat →
      w.toNat ≤ 1023 → fillLength.toNat ≤ 256 → mayIssue .laneSet ps s →
        (x.state = .idle →
          exec (.laneSet ps) s =
            .next
              (answered .laneSet .ok []
                (withLane
                  { x with
                    config :=
                      { source := source, cn := cn, cd := cd, delay := d, offset := o, quota := quota, divisor := w
                        fillWord := fillWord, fillLength := fillLength } }))) ∧
        (x.state ≠ .idle → exec (.laneSet ps) s = .next (answered .laneSet .laneBusy [] s))) ∧
    (∀ f : Word, f ≠ 0xFFFF →
      let config := { x.config with source := f }
      let removed := x.queue.filter fun e => decide (e.flow = x.config.source)
      (mayIssue .laneSource [lane, f, 0] s →
        exec (.laneSource [lane, f, 0]) s =
          .next (answered .laneSource .ok [] (withLane { x with config := config }))) ∧
      (mayIssue .laneSource [lane, f, 1] s →
        exec (.laneSource [lane, f, 1]) s =
          .next
            (answered .laneSource .ok []
              (releaseEntries removed
                (withLane
                  { x with
                    config := config
                    queue := x.queue.filter fun e => decide (e.flow ≠ x.config.source)
                    counters := { x.counters with flushed := satAdd x.counters.flushed removed.length } }))))) ∧
    (mayIssue .laneZero [lane] s →
      exec (.laneZero [lane]) s =
        .next
          (answered .laneZero .ok []
            (withLane
              { x with
                counters := ⟨0, 0, 0, 0, 0, 0, 0, 0, 0, 0, 0⟩, underrun := false, refused := false, overrun := false })))

/-- LANE_READ's 49 words (R95) and LANE_PEEK's six words for each entry from the start on, at most the maximum count (R96); NO_ROOM
when the words exceed the room. Neither changes anything. -/
def Obligations.LaneReads : Prop :=
  ∀ (s : State) (l : LaneId) (lane : Word), lane.toNat = l.val →
    let x := laneOf s l
    let k := x.counters
    let c := x.config
    let payloadLength (e : Entry) : Nat := (blockPayload s.store e.block).length
    (mayIssue .laneRead [lane] s →
      let words : List Word :=
        [lane,
          BitVec.ofNat 16
            (laneStateCode x.state * 4096 + x.commands.length * 256 + (if x.frame = none then 0 else 128) +
              (if x.underrun then 4 else 0) + (if x.refused then 2 else 0) + if x.overrun then 1 else 0),
          lastCode x.last, c.source] ++ twoWords c.cn ++ [c.cd] ++ twoWords c.delay ++ twoWords c.offset ++
        [c.quota, c.divisor, c.fillWord, c.fillLength, BitVec.ofNat 16 x.queue.length, BitVec.ofNat 16 (charge x)] ++
        (match x.held with
          | none => [0, 0, 0, 0, 0]
          | some e =>
            [BitVec.ofNat 16 ((if x.state = .parked then 32768 else 16384) + payloadLength e), e.flow, e.seq] ++
              twoWords e.pts) ++
        twoWords x.datum ++ twoWords x.nextSlot ++ [x.remainder] ++ twoWords k.presented ++ twoWords k.repeated ++
        twoWords k.filled ++ twoWords k.skipped ++ twoWords k.late ++ twoWords k.early ++ twoWords k.refusedQueue ++
        twoWords k.refusedQuota ++ twoWords k.refusedStore ++ twoWords k.flushed ++ twoWords k.overruns
      words.length = 49 ∧
        (49 ≤ roomFor s → exec (.laneRead [lane]) s = .next (answered .laneRead .ok words s)) ∧
        (roomFor s < 49 → exec (.laneRead [lane]) s = .next (answered .laneRead .noRoom [] s))) ∧
    ∀ start m : Word, start.toNat ≤ 63 → 1 ≤ m.toNat → m.toNat ≤ 64 → mayIssue .lanePeek [lane, start, m] s →
      let shown := (x.queue.drop start.toNat).take m.toNat
      let words : List Word :=
        shown.flatMap fun e =>
          [e.flow, e.seq] ++ twoWords e.release ++
            [BitVec.ofNat 16
                ((if e.marker then 32768 else 0) + (if e.disc then 16384 else 0) +
                  (if e.port = .b then 256 else 0) + e.cells),
              BitVec.ofNat 16 (payloadLength e)]
      shown.length = min m.toNat (x.queue.length - start.toNat) ∧ words.length = 6 * shown.length ∧
        (words.length ≤ roomFor s → exec (.lanePeek [lane, start, m]) s = .next (answered .lanePeek .ok words s)) ∧
        (roomFor s < words.length →
          exec (.lanePeek [lane, start, m]) s = .next (answered .lanePeek .noRoom [] s))

/-- START: its checks in order (R101), and what an accepted START does (R102). -/
def Obligations.StartJudged : Prop :=
  ∀ (s : State) (ps : List Word), mayIssue .start ps s →
    (ps.length ≠ 3 → exec (.start ps) s = .next (answered .start .badParam [] s)) ∧
    ∀ lane high low : Word, ps = [lane, high, low] →
      let anchor : Tick := high ++ low
      (16 ≤ lane.toNat → exec (.start ps) s = .next (answered .start .badLane [] s)) ∧
      ∀ l : LaneId, lane.toNat = l.val →
        let x := laneOf s l
        let mayStart := x.state = .idle ∨ x.state = .parked
        let ahead := distance s.time.tb anchor
        (s.time.isSet = false → exec (.start ps) s = .next (answered .start .noTime [] s)) ∧
        (s.time.isSet = true → ¬ mayStart → exec (.start ps) s = .next (answered .start .active [] s)) ∧
        (s.time.isSet = true → mayStart → ahead = 0 ∨ 2 ^ 31 ≤ ahead →
          exec (.start ps) s = .next (answered .start .past [] s)) ∧
        (s.time.isSet = true → mayStart → 2 ^ 30 < ahead → ahead < 2 ^ 31 →
          exec (.start ps) s = .next (answered .start .tooFar [] s)) ∧
        (s.time.isSet = true → mayStart → 1 ≤ ahead → ahead ≤ 2 ^ 30 →
          let u :=
            releaseEntries x.held.toList
              { s with
                lanes :=
                  s.lanes.set l
                    { x with
                      state := .running, held := none, datum := s.time.tb, nextSlot := anchor, remainder := 0
                      last := .start, stopMode := none, underrun := false, refused := false, overrun := false } }
          exec (.start ps) s =
            .next (answered .start .ok [] { u with requests := u.requests ++ [.laneState l x.state .running] }))

/-- HALT (R104): no effect in IDLE; else the queue is flushed and counted, the unit is released, the lane's context is discarded,
and LANE_STATE follows; the frame in transmission goes on. -/
def Obligations.HaltEmptiesLane : Prop :=
  ∀ (s : State) (l : LaneId) (lane : Word), lane.toNat = l.val → mayIssue .halt [lane] s →
    let x := laneOf s l
    (x.state = .idle → exec (.halt [lane]) s = .next (answered .halt .ok [] s)) ∧
    (x.state ≠ .idle →
      let u :=
        releaseEntries (x.queue ++ x.held.toList)
          { s with
            lanes :=
              s.lanes.set l
                { idleLane x with
                  counters := { x.counters with flushed := satAdd x.counters.flushed x.queue.length } } }
      exec (.halt [lane]) s =
        .next (answered .halt .ok [] { u with requests := u.requests ++ [.laneState l x.state .idle] }))

/-- A queued command's arrival: the succession table of R107 between the checks of R106. A preceding command of none is met only in
IDLE, and a DRAINING lane's preceding command is STOP. -/
def Obligations.QueuedCommandsFollowSuccession : Prop :=
  (∀ (s : State) (l : LaneId) (lane : Word) (i : Instr) (d : Directive) (c : Command) (asLast : LastCommand)
      (ps : List Word), lane.toNat = l.val →
    (i, d, c, asLast, ps) ∈
      [(Instr.run [lane], Directive.run, Command.run, LastCommand.run, [lane]), (.hold [lane], .hold, .hold, .hold, [lane]),
        (.step [lane], .step, .step, .step, [lane]), (.seek [lane], .seek, .seek, .seek, [lane]),
        (.cue [lane], .cue, .cue, .cue, [lane]), (.stop [lane, 0], .stop, .stop .fill, .stop, [lane, 0]),
        (.stop [lane, 1], .stop, .stop .last, .stop, [lane, 1])] →
    mayIssue d ps s →
    let x := laneOf s l
    let isActive := x.state ≠ .idle ∧ x.state ≠ .parked
    (¬ isActive → exec i s = .next (answered d .notActive [] s)) ∧
    (isActive → asLast ∉ successors x.last → exec i s = .next (answered d .order [] s)) ∧
    (isActive → asLast ∈ successors x.last → 4 ≤ x.commands.length →
      exec i s = .next (answered d .cmdFull [] s)) ∧
    (isActive → asLast ∈ successors x.last → x.commands.length < 4 →
      exec i s =
        .next
          (answered d .queued []
            { s with lanes := s.lanes.set l { x with commands := x.commands ++ [c], last := asLast } }))) ∧
    ∀ (s : State) (l : LaneId), LanesOk s →
      ((laneOf s l).last = .none → (laneOf s l).state = .idle) ∧
        ((laneOf s l).state = .draining → (laneOf s l).last = .stop)

/-! ## Directives of the time base and the directive scheduler -/

/-- TIME_SET (R67, R71, R173): LANES_ACTIVE unless every lane is IDLE; else TB is set, the list is flushed, and SCHED_FLUSHED precedes
TIME_CHANGED. -/
def Obligations.TimeSetFlushesList : Prop :=
  ∀ (s : State) (high low : Word), mayIssue .timeSet [high, low] s →
    ((∃ l, (laneOf s l).state ≠ .idle) →
      exec (.timeSet [high, low]) s = .next (answered .timeSet .lanesActive [] s)) ∧
    ((∀ l, (laneOf s l).state = .idle) →
      exec (.timeSet [high, low]) s =
        .next
          (answered .timeSet .ok []
            { s with
              time := { tb := high ++ low, isSet := true }
              scheduler := { s.scheduler with list := [] }
              requests :=
                s.requests ++
                  [.schedFlushed (BitVec.ofNat 16 s.scheduler.list.length),
                    .timeChanged s.time.tb (high ++ low) .set] }))

/-- TIME_ADJUST with a delta in range: NO_TIME, the backward guard (R68), which leaves out entries already due as R168 has the
scheduler's answer leave out one that waits (log entry 12), and whose refusal ends the hold, so that a due head expires at once
(R171, log entry 19); and the accepted adjust, which moves TB and the next slot time of every lane that holds a grid and nothing
else (R69), requests TIME_CHANGED and sends the overdue request (R70). -/
def Obligations.TimeAdjustMovesGrids : Prop :=
  ∀ (s : State) (high low : Word), mayIssue .timeAdjust [high, low] s →
    let delta : Tick := high ++ low
    delta.toInt ≤ 16777215 → -16777216 ≤ delta.toInt →
    let tooFar :=
      delta.toInt < 0 ∧
        ∃ e ∈ s.scheduler.list, ¬ atOrBefore e.due s.time.tb ∧ 2 ^ 31 ≤ distance (s.time.tb + delta) e.due
    (s.time.isSet = false → exec (.timeAdjust [high, low]) s = .next (answered .timeAdjust .noTime [] s)) ∧
    (s.time.isSet = true → tooFar →
      ∃ u, (if s.scheduler.service = none then exec .expiry s = .next u else u = s) ∧
        exec (.timeAdjust [high, low]) s = .next (answered .timeAdjust .tooFar [] u)) ∧
    (s.time.isSet = true → ¬ tooFar →
      ∃ u, exec (.timeAdjust [high, low]) s = .next (answered .timeAdjust .ok [] u) ∧
        u =
          { s with
            time := { s.time with tb := s.time.tb + delta }
            lanes := u.lanes
            scheduler := { s.scheduler with overdue := s.scheduler.overdue + 1 }
            requests := s.requests ++ [.timeChanged s.time.tb (s.time.tb + delta) .adjust] } ∧
        ∀ l, laneOf u l =
          if (laneOf s l).state = .idle then laneOf s l
          else { laneOf s l with nextSlot := (laneOf s l).nextSlot + delta })

/-- AT that fails one of the checks of R166, in their order, is answered that check's status and changes nothing. Past its form stage
it waits while the list is held or an expiry is in service (R68, R165), without effect: how a wait shows is the model's choice
(log entry 6). -/
def Obligations.AtRefused : Prop :=
  ∀ (s : State) (high low envelope : Word) (params : List Word),
    let ps := high :: low :: envelope :: params
    let ahead := distance s.time.tb (high ++ low)
    let inTime := s.time.isSet = true ∧ 1 ≤ ahead ∧ ahead ≤ 2 ^ 30
    let code := envelope.extractLsb' 8 8
    let count := (envelope.extractLsb' 0 8).toNat
    (s.scheduler.overdue ≠ 0 ∨ s.scheduler.service ≠ none → exec (.schedAt ps) s = .next s) ∧
    (s.scheduler.overdue = 0 → s.scheduler.service = none → mayIssue .schedAt ps s →
      (s.time.isSet = false → exec (.schedAt ps) s = .next (answered .schedAt .noTime [] s)) ∧
      (s.time.isSet = true → ahead = 0 ∨ 2 ^ 31 ≤ ahead →
        exec (.schedAt ps) s = .next (answered .schedAt .past [] s)) ∧
      (s.time.isSet = true → 2 ^ 30 < ahead → ahead < 2 ^ 31 →
        exec (.schedAt ps) s = .next (answered .schedAt .tooFar [] s)) ∧
      (inTime → (∀ form ∈ schedulableForms, directiveCode form.1 ≠ code) →
        exec (.schedAt ps) s = .next (answered .schedAt .notSchedulable [] s)) ∧
      ∀ d k onLane, inTime → (d, k, onLane) ∈ schedulableForms → directiveCode d = code →
        let counted := count = params.length ∧ params.length = k
        let laneGood := onLane = true → (params.getD 0 0).toNat ≤ 15
        (¬ counted → exec (.schedAt ps) s = .next (answered .schedAt .badParam [] s)) ∧
        (counted → ¬ laneGood → exec (.schedAt ps) s = .next (answered .schedAt .badLane [] s)) ∧
        (counted → laneGood → paramsInRange d params = false →
          exec (.schedAt ps) s = .next (answered .schedAt .badParam [] s)) ∧
        (counted → laneGood → paramsInRange d params = true → 32 ≤ s.scheduler.list.length →
          exec (.schedAt ps) s = .next (answered .schedAt .sdlFull [] s)) ∧
        (counted → laneGood → paramsInRange d params = true → s.scheduler.list.length < 32 → roomFor s = 0 →
          exec (.schedAt ps) s = .next (answered .schedAt .noRoom [] s)))

/-- AT that passes all checks of R166 answers SCHEDULED with its serial, the first candidate from the next-serial counter on that no
pending entry holds (R167), and its entry stands behind every entry at most as far from TB (R168). -/
def Obligations.AtAdmitted : Prop :=
  ∀ (s : State) (high low envelope : Word) (params : List Word) (d : Directive), s.scheduler.overdue = 0 →
    s.scheduler.service = none → SdlOk s → (∀ e ∈ s.scheduler.list, strictlyAfter e.due s.time.tb = true) →
    let ps := high :: low :: envelope :: params
    let due : Tick := high ++ low
    mayIssue .schedAt ps s → s.time.isSet = true → 1 ≤ distance s.time.tb due → distance s.time.tb due ≤ 2 ^ 30 →
    directiveCode d = envelope.extractLsb' 8 8 → (envelope.extractLsb' 0 8).toNat = params.length →
    admissible d params → s.scheduler.list.length < 32 → 1 ≤ roomFor s →
      ∃ (k : Nat) (before behind : List SdlEntry),
        let candidate (n : Nat) : Word := BitVec.ofNat 16 ((s.scheduler.nextSerial.toNat + n) % 65535)
        let entry : SdlEntry := { serial := candidate k, due := due, code := d, params := params }
        (∀ n < k, ∃ e ∈ s.scheduler.list, e.serial = candidate n) ∧
          (∀ e ∈ s.scheduler.list, e.serial ≠ candidate k) ∧
          s.scheduler.list = before ++ behind ∧
          (∀ e ∈ before, distance s.time.tb e.due ≤ distance s.time.tb due) ∧
          (∀ e ∈ behind.head?.toList, distance s.time.tb due < distance s.time.tb e.due) ∧
          exec (.schedAt ps) s =
            .next
              (answered .schedAt .scheduled [candidate k]
                { s with
                  scheduler :=
                    { s.scheduler with list := before ++ [entry] ++ behind, nextSerial := candidate (k + 1) } })

/-- SDL_CANCEL of one serial and of all entries, and SDL_READ, with any parameters. Past the form stage both wait while an expiry is in
service, SDL_CANCEL also while the list is held, without effect: how a wait shows is the model's choice (log entry 6). -/
def Obligations.SdlCancelAndRead : Prop :=
  ∀ s : State,
    (s.scheduler.overdue ≠ 0 ∨ s.scheduler.service ≠ none →
      exec .sdlCancelAll s = .next s ∧ ∀ n, exec (.sdlCancel [n]) s = .next s) ∧
    (s.scheduler.service ≠ none → ∀ start m : Word, start.toNat ≤ 31 → m ≠ 0 → m.toNat ≤ 32 →
      exec (.sdlRead [start, m]) s = .next s) ∧
    (∀ ps : List Word, ps.length ≠ 1 → mayIssue .sdlCancel ps s →
      exec (.sdlCancel ps) s = .next (answered .sdlCancel .badParam [] s)) ∧
    (∀ n : Word, n ≠ 0xFFFF → s.scheduler.overdue = 0 → s.scheduler.service = none → mayIssue .sdlCancel [n] s →
      ((∀ e ∈ s.scheduler.list, e.serial ≠ n) →
        exec (.sdlCancel [n]) s = .next (answered .sdlCancel .noEntry [] s)) ∧
      ((∃ e ∈ s.scheduler.list, e.serial = n) →
        (roomFor s = 0 → exec (.sdlCancel [n]) s = .next (answered .sdlCancel .noRoom [] s)) ∧
        (1 ≤ roomFor s →
          exec (.sdlCancel [n]) s =
            .next
              (answered .sdlCancel .ok [1]
                { s with
                  scheduler :=
                    { s.scheduler with list := s.scheduler.list.filter fun e => decide (e.serial ≠ n) } })))) ∧
    (s.scheduler.overdue = 0 → s.scheduler.service = none → mayIssue .sdlCancel [0xFFFF] s →
      ∀ i ∈ [Instr.sdlCancelAll, .sdlCancel [0xFFFF]],
        (roomFor s = 0 → exec i s = .next (answered .sdlCancel .noRoom [] s)) ∧
        (1 ≤ roomFor s →
          exec i s =
            .next
              (answered .sdlCancel .ok [BitVec.ofNat 16 s.scheduler.list.length]
                { s with scheduler := { s.scheduler with list := [] } }))) ∧
    ∀ ps : List Word, mayIssue .sdlRead ps s →
      ((∀ start m : Word, ps = [start, m] → 31 < start.toNat ∨ m = 0 ∨ 32 < m.toNat) →
        exec (.sdlRead ps) s = .next (answered .sdlRead .badParam [] s)) ∧
      ∀ start m : Word, ps = [start, m] → start.toNat ≤ 31 → m ≠ 0 → m.toNat ≤ 32 →
        s.scheduler.service = none →
        let shown := (s.scheduler.list.drop start.toNat).take m.toNat
        let words : List Word :=
          shown.flatMap fun e =>
            [e.serial] ++ twoWords e.due ++ [directiveCode e.code ++ BitVec.ofNat 8 e.params.length, e.params.headD 0]
        shown.length = min m.toNat (s.scheduler.list.length - start.toNat) ∧ words.length = 5 * shown.length ∧
          (words.length ≤ roomFor s → exec (.sdlRead ps) s = .next (answered .sdlRead .ok words s)) ∧
          (roomFor s < words.length → exec (.sdlRead ps) s = .next (answered .sdlRead .noRoom [] s))

/-! ## Restarts -/

/-- RESTART with scope LANES (R62, R97, R120, R136). In each of its steps the lanes whose turn it is serve it, each once: IDLE and empty,
their blocks released, their frames abandoned, their configuration, counters and flags kept but for flushed. When the last has
answered, the store is empty, UNIT_RESTARTED is the last notice requested, and RESTART is answered (RestartOk: a RESTART in progress
names no lane twice). Until then the control unit issues nothing else. How the lanes share out the steps is the surroundings' choice
(log entry 27), and the order of the releases inside one step (24), and that a lane an expired START has run again meanwhile keeps
its blocks (27), are the model's. A parameter other than 1 and 2 is answered BAD_PARAM. -/
def Obligations.RestartLanesEmptiesLanes : Prop :=
  ∀ s : State,
    (∀ w : Word, w ≠ 1 → w ≠ 2 → mayIssue .restart [w] s →
      exec (.restartLanes [w]) s = .next (answered .restart .badParam [] s)) ∧
    (∀ r i e, s.control.restart = some r → envelopeOf i = some e →
      e ≠ { code := 5, params := [if r.scope = .lanes then 1 else 2] } → exec i s = .next s) ∧
    (mayIssue .restart [1] s → RestartOk s →
      ∃ u : State,
        u =
          { afterReleases s with
            lanes := u.lanes
            surroundings := { s.surroundings with restarts := s.surroundings.restarts.tail } } ∧
        (∀ l, laneOf u l =
          if l ∈ answering s then
            { idleLane (laneOf s l) with
              frame := none
              counters :=
                { (laneOf s l).counters with
                  flushed := satAdd (laneOf s l).counters.flushed (laneOf s l).queue.length } }
          else laneOf s l) ∧
        (leftWaiting s ≠ [] →
          exec (.restartLanes [1]) s =
            .next
              { u with
                control := { s.control with restart := some { scope := .lanes, waiting := leftWaiting s } } }) ∧
        (leftWaiting s = [] →
          let done (store : Store) : State :=
            { u with
              control := { s.control with restart := none }
              store := store
              requests := u.requests ++ [.unitRestarted .lanes] }
          ((∀ l, blocksHeld (laneOf u l) = []) →
            exec (.restartLanes [1]) s =
              .next
                (answered .restart .ok []
                  (done { records := [], freeCells := 1024, freeRecords := 512, fullFlag := false }))) ∧
          ((∃ l, blocksHeld (laneOf u l) ≠ []) →
            exec (.restartLanes [1]) s = .next (answered .restart .ok [] (done { u.store with fullFlag := false })))))

/-- RESTART with scope FULL (R137), in a block or alone: every part of the state after each of its steps. An expiry in service ends
first (R175); then the scheduler and, in each step, the lanes whose turn it is restart; when the last lane has answered, the time
base and every other owner. The report queue then holds the response, when there is one and it is wanted, and UNIT_RESTARTED, each
with TIME_UNSET set, and a report going out completes off the queue. The model's choices: the order of the owners (log entry 27),
the waiting notices served before the report generator's restart, in the order of their requests, with the report sequence going on
from where they leave it (11, 24), no sweep left due (20), and the two PTS of 0 (25). The command RESTART_LANES with the parameter 2
does the same (15). -/
def Obligations.RestartFullResetsPart : Prop :=
  ∀ s : State, mayIssue .restart [2] s →
    exec (.restartLanes [2]) s = exec .restartFull s ∧
    (∀ x, s.control.restart = none → s.scheduler.service = some x →
      ∃ u : State,
        exec (if x.late then .overdueRequest else .expiry)
            { s with surroundings := { s.surroundings with answers := [] } } = .next u ∧
          u.scheduler.service = none ∧
          exec .restartFull s = exec .restartFull { u with surroundings := s.surroundings }) ∧
    (RestartOk s → (s.control.restart = none → s.scheduler.service = none) →
      ∃ u : State,
        u =
          { afterReleases s with
            lanes := u.lanes
            scheduler := { list := [], nextSerial := 0, overdue := 0, service := none }
            surroundings := { s.surroundings with restarts := s.surroundings.restarts.tail } } ∧
        (∀ l, laneOf u l = if l ∈ answering s then resetLane else laneOf s l) ∧
        (leftWaiting s ≠ [] →
          exec .restartFull s =
            .next
              { u with control := { s.control with restart := some { scope := .full, waiting := leftWaiting s } } }) ∧
        (leftWaiting s = [] →
          let port (y : Port) : Port :=
            { y with buffer := [], counters := ⟨0, 0, 0, 0, 0, 0, 0, 0⟩, errorFlag := false }
          let own : ResultEntry := { code := 5, status := .ok, results := [] }
          let answer (x : Execution) (b : IntakeEntry) : List Word :=
            responseOf s.control.unitAddr b 0
              (x.entries ++ [own] ++ x.todo.tail.map fun e => { code := e.code, status := .notRun, results := [] })
          let carried : List (IntakeEntry × List Word) :=
            match s.control.execution, s.control.intake with
            | some x, b :: _ => [(b, answer x b)]
            | _, _ => []
          let wanted := carried.filter fun c => replyWanted c.1.payload
          let time : TimeBase := { tb := 0, isSet := false }
          let before := (servedInTurn u.requests { u with time := time }).reports
          exec .restartFull s =
            .next
              { ports := { a := port s.ports.a, b := port s.ports.b }
                classifier :=
                  { table := [], unknown := { a := 0, b := 0 }, lastServed := .b, sweepNumber := 0, sweepTimer := 0
                    sweepsDue := 0 }
                store := { records := [], freeCells := 1024, freeRecords := 512, fullFlag := false }
                lanes := Vector.replicate 16 resetLane
                time := time
                scheduler := u.scheduler
                control :=
                  { unitAddr := s.control.unitAddr, group := none, intake := [], execution := none, restart := none
                    inquiry := none
                    cache :=
                      carried.map fun c =>
                        { origin := c.1.origin, seq := c.1.seq, port := c.1.port, sweep := 0, response := c.2 }
                    counters := ⟨0, 0, 0, 0, 0⟩, overrunFlag := false, lastAnswer := some own }
                reports :=
                  { queue :=
                      (wanted.map fun c =>
                        { kind := .response, seq := before.seq, pts := 0, payload := orFirst 0x8000 c.2 }) ++
                      [{ kind := .notice, seq := before.seq + BitVec.ofNat 16 wanted.length, pts := 0
                         payload := [0x8800 ||| s.control.unitAddr.setWidth 16, 0x0801, 0, 1, 3] }]
                    seq := before.seq + BitVec.ofNat 16 wanted.length + 1
                    mask := 0xFF, suppressed := 0, reserved := false, link := linkAfterRestart before
                    hold := s.reports.hold }
                offers := s.offers, requests := [], surroundings := u.surroundings, pending := s.pending }))

/-! ## The control unit -/

/-- The form stage (R5, R140): a code outside the table is answered UNKNOWN; a parameter count other than the code's is answered
BAD_PARAM; then a lane above 15 is answered BAD_LANE; then another parameter out of its range is answered BAD_PARAM. None of
them has another effect. -/
def Obligations.FormStageRefuses : Prop :=
  (∀ (code : BitVec 8) (ps : List Word) (s : State), (∀ d, directiveCode d ≠ code) →
    issuable { code := code, params := ps } s = true →
    exec (.unknownCode code ps) s = .next (conclude { code := code, status := .unknown, results := [] } s)) ∧
  (∀ (d : Directive) (k : Nat) (ps : List Word) (s : State),
    (d, k) ∈
      [(Directive.unitRead, 0), (.groupSet, 1), (.noticeMask, 1), (.restart, 1), (.portRead, 1), (.portZero, 1),
        (.flowSet, 3), (.flowClear, 1), (.flowRead, 1), (.flowList, 2), (.flowZero, 1), (.laneSet, 13), (.laneSource, 3),
        (.laneRead, 1), (.lanePeek, 3), (.laneZero, 1), (.start, 3), (.halt, 1), (.run, 1), (.hold, 1), (.step, 1),
        (.seek, 1), (.cue, 1), (.stop, 2), (.timeSet, 2), (.timeAdjust, 2), (.timeRead, 0), (.sdlCancel, 1),
        (.sdlRead, 2)] →
    mayIssue d ps s → ps.length ≠ k → exec (directiveCommand d ps) s = .next (answered d .badParam [] s)) ∧
  (∀ (ps : List Word) (s : State), mayIssue .schedAt ps s → ps.length < 3 →
    exec (.schedAt ps) s = .next (answered .schedAt .badParam [] s)) ∧
  (∀ (d : Directive) (k : Nat) (lane : Word) (others : List Word) (s : State),
    (d, k) ∈
      [(Directive.laneSet, 12), (.laneSource, 2), (.laneRead, 0), (.lanePeek, 2), (.laneZero, 0), (.start, 2), (.halt, 0),
        (.run, 0), (.hold, 0), (.step, 0), (.seek, 0), (.cue, 0), (.stop, 1)] →
    mayIssue d (lane :: others) s → others.length = k →
    (16 ≤ lane.toNat → exec (directiveCommand d (lane :: others)) s = .next (answered d .badLane [] s)) ∧
      (lane.toNat ≤ 15 → paramsInRange d (lane :: others) = false →
        exec (directiveCommand d (lane :: others)) s = .next (answered d .badParam [] s))) ∧
  ∀ (d : Directive) (k : Nat) (ps : List Word) (s : State),
    (d, k) ∈
      [(Directive.groupSet, 1), (.restart, 1), (.portRead, 1), (.portZero, 1), (.flowSet, 3), (.flowClear, 1),
        (.flowRead, 1), (.flowList, 2), (.flowZero, 1), (.timeAdjust, 2), (.sdlRead, 2)] →
    mayIssue d ps s → ps.length = k → paramsInRange d ps = false →
    exec (directiveCommand d ps) s = .next (answered d .badParam [] s)

/-- CONTROL_BLOCK_OFFER of a block not addressed to the part (R123), and of a new block: admitted while the intake holds fewer than 4,
else discarded with CONTROL_OVERRUN when its flag is clear (R126). An offer that comes while a RESTART FULL is in progress is judged
after it (R137); that it is then kept when none waits, and has no effect when others wait, whatever its operands, is the model's
choice (log entries 4 and 27). -/
def Obligations.OffersNotMineAndNew : Prop :=
  (∀ (s : State) (o : Offer), inFullRestart s →
    exec (.controlBlockOffer o.port o.seq o.payload) s =
      .next { s with offers := if s.offers = [] then [o] else s.offers }) ∧
  ∀ (s u : State) (o : Offer), offerTaken o s u →
    let i : Instr := .controlBlockOffer o.port o.seq o.payload
    let origin := o.payload.getD 1 0
    let k := s.control.counters
    (¬ addressed o s →
      exec i s =
        .next { u with control := { s.control with counters := { k with notMine := bump k.notMine } } }) ∧
    (addressed o s → (∀ e ∈ s.control.intake, (e.origin, e.seq) ≠ (origin, o.seq)) →
      (∀ e ∈ s.control.cache, (e.origin, e.seq) ≠ (origin, o.seq)) →
      (s.control.intake.length < 4 →
        exec i s =
          .next
            { u with
              control :=
                { s.control with
                  intake :=
                    s.control.intake ++
                      [{ origin := origin, seq := o.seq, port := o.port, sweep := s.classifier.sweepNumber
                         payload := o.payload }] } }) ∧
      (4 ≤ s.control.intake.length →
        exec i s =
          .next
            { u with
              control := { s.control with counters := { k with overrun := bump k.overrun }, overrunFlag := true }
              requests := s.requests ++ if s.control.overrunFlag then [] else [.controlOverrun] }))

/-- CONTROL_BLOCK_OFFER of a block whose key is held (R124, R133): a twin is discarded; a repeat of a block in the intake is discarded; a
retry is answered from the reply cache with RESENT set when it wants a reply and the report queue has room. -/
def Obligations.OffersRepeated : Prop :=
  ∀ (s u : State) (o : Offer), offerTaken o s u → addressed o s → ControlOk s →
    let i : Instr := .controlBlockOffer o.port o.seq o.payload
    let key := (o.payload.getD 1 0, o.seq)
    let k := s.control.counters
    let twin (port : PortId) (sweep : Word) : Prop :=
      o.port ≠ port ∧ (s.classifier.sweepNumber - sweep = 0 ∨ s.classifier.sweepNumber - sweep = 1)
    let counted (k' : ControlCounters) : State := { u with control := { s.control with counters := k' } }
    (∀ e ∈ s.control.intake, (e.origin, e.seq) = key →
      (twin e.port e.sweep → exec i s = .next (counted { k with twins := bump k.twins })) ∧
      (¬ twin e.port e.sweep → exec i s = .next (counted { k with retriesDropped := bump k.retriesDropped }))) ∧
    ∀ e ∈ s.control.cache, (e.origin, e.seq) = key →
      let wanted := (o.payload.getD 0 0).getLsbD 15
      let held := s.reports.queue.length + if s.reports.reserved then 1 else 0
      (twin e.port e.sweep → exec i s = .next (counted { k with twins := bump k.twins })) ∧
      (¬ twin e.port e.sweep → wanted = false → exec i s = .next (counted { k with retries := bump k.retries })) ∧
      (¬ twin e.port e.sweep → wanted = true → 16 ≤ held →
        exec i s = .next (counted { k with retriesDropped := bump k.retriesDropped })) ∧
      (¬ twin e.port e.sweep → wanted = true → held < 16 →
        exec i s =
          .next
            { u with
              control := { s.control with counters := { k with retries := bump k.retries } }
              reports :=
                reportAdded .response
                  (match e.response with
                    | [] => []
                    | p0 :: more => (p0 ||| 0x4000 ||| unsetBit s) :: more)
                  s })

/-- EXECUTION_START (R127, R128, R132): with the control unit IDLE, a block in the intake and fewer than 16 reports, the head block starts
with a place reserved when its reply is wanted; a malformed one ends there. A block whose finish waits finishes. Otherwise nothing
happens. That the start comes with this command and not with the event that allows it, and that a finish may wait for it, are the
model's choices (log entries 28 and 26). -/
def Obligations.ExecutionStarts : Prop :=
  ∀ s : State,
    ((s.control.execution = none ∧
        (s.control.restart ≠ none ∨ s.control.inquiry ≠ none ∨ s.control.intake = [] ∨ 16 ≤ s.reports.queue.length)) ∨
        (∃ x, s.control.execution = some x ∧ x.ended = none) →
      exec .executionStart s = .next s) ∧
    ∀ (b : IntakeEntry) (rest : List IntakeEntry), s.control.intake = b :: rest →
      (∀ (x : Execution) (status : BlockStatus) (code : Nat), s.control.execution = some x → x.ended = some status →
        (status, code) ∈ [(BlockStatus.complete, 0), (.stopped, 1), (.malformed, 2)] →
        exec .executionStart s = .next (finishedBy b rest (responseOf s.control.unitAddr b code x.entries) s)) ∧
      (s.control.execution = none → s.control.restart = none → s.control.inquiry = none → s.reports.queue.length < 16 →
        let reserving : State :=
          { s with reports := { s.reports with reserved := s.reports.reserved || replyWanted b.payload } }
        (∀ es, envelopesOf b.payload = some es →
          exec .executionStart s =
            .next
              { reserving with
                control := { s.control with execution := some { todo := es, entries := [], ended := none } } }) ∧
        (envelopesOf b.payload = none → exec .executionStart s = .next (blockEnded b rest .malformed [] reserving)))

/-- What an answer does at the control unit (R130, R132), that of a code outside the table too (R5): it becomes the directive's entry; a
failure with CONTINUE clear stops the block, the directives after it NOT_RUN; after the last entry the block finishes, at once or,
the report generator serving its requests in any order (R176), in a later step (log entry 26). That a last directive failing with
CONTINUE clear gives STOPPED is the model's reading (log entry 16), and that with no block in execution the answer is kept and
nothing else follows is its choice (log entry 5). -/
def Obligations.AnswersMakeEntries : Prop :=
  (∀ (d : Directive) (st : Status) (results : List Word) (s : State),
    answered d st results s = conclude { code := directiveCode d, status := st, results := results } s) ∧
  ∀ (s : State) (r : ResultEntry),
    let received : State := { s with control := { s.control with lastAnswer := some r } }
    let isFailure := r.status ∉ [Status.ok, .queued, .scheduled]
    (s.control.execution = none → conclude r s = received) ∧
    ∀ (todo : List Envelope) (e : Envelope) (entries : List ResultEntry) (b : IntakeEntry) (rest : List IntakeEntry),
      s.control.execution = some { todo := e :: todo, entries := entries, ended := none } → s.control.intake = b :: rest →
      let continues := (b.payload.getD 0 0).getLsbD 14
      (isFailure → continues = false →
        conclude r s =
          blockEnded b rest .stopped
            (entries ++ [r] ++ todo.map fun y => { code := y.code, status := .notRun, results := [] }) received) ∧
      (¬ isFailure ∨ continues = true →
        (todo ≠ [] →
          conclude r s =
            { received with
              control :=
                { received.control with
                  execution := some { todo := todo, entries := entries ++ [r], ended := none } } }) ∧
        (todo = [] → conclude r s = blockEnded b rest .complete (entries ++ [r]) received))

/-! ## Expiry -/

/-- EXPIRY (R165, R169, R170): the due head of a list that is not held leaves it, and its expiry is in service. Its owner answers in the
same step, or in a later one when the next of the answers to come says so (log entry 22): its directive then does what it does
when the control unit issues it, as the part then stands, and SCHED_DONE with its status and late flag 0 is the last notice
requested. The overdue request of an accepted TIME_ADJUST, and others that waited for the end of the expiry, are served at once
(R165); else a due new head is expired at once, in the same way. Without a due head, while the list is held, and while an expiry
of the overdue walk is in service, nothing happens. -/
def Obligations.ExpiryIssuesHead : Prop :=
  ∀ s : State,
    (s.scheduler.service = none →
      (s.scheduler.overdue ≠ 0 ∨ (∀ e ∈ s.scheduler.list.head?.toList, atOrBefore e.due s.time.tb = false) →
        exec .expiry s = .next s) ∧
      ∀ (e : SdlEntry) (rest : List SdlEntry), s.scheduler.list = e :: rest → atOrBefore e.due s.time.tb = true →
        s.scheduler.overdue = 0 →
          (s.surroundings.answers.head? = some .later → exec .expiry s = .next (inServiceNow e rest false s)) ∧
            (s.surroundings.answers.head? ≠ some .later →
              exec .expiry s = exec .expiry (inServiceNow e rest false s))) ∧
    ∀ (e : SdlEntry) (late : Bool), s.scheduler.service = some { entry := e, late := late } →
      (late = true → exec .expiry s = .next s) ∧
      (late = false → admissible e.code e.params →
        ∃ (v : State) (st : Status), issuedAlone e s v st ∧
          let overdue := s.scheduler.overdue + if e.code = .timeAdjust ∧ st = .ok then 1 else 0
          let t := expiryEnded e false s v st
          let done : State := { t with scheduler := { t.scheduler with overdue := overdue } }
          exec .expiry s = if overdue = 0 then exec .expiry done else exec .overdueRequest done)

/-- OVERDUE_REQUEST (R70, R165, R171): with no due head the requests waiting end, and the hold with them (log entry 19); a due head leaves
the list, and its expiry is in service, its owner answering in the same step or in a later one (log entry 22). The entry in service
is issued as at an expiry, SCHED_DONE carries late flag 1, an accepted TIME_ADJUST's own request is part of the same walk, and the
walk goes on from there. With no overdue request, and while another expiry is in service, nothing happens. -/
def Obligations.OverdueWalkExpiresDueEntries : Prop :=
  ∀ s : State,
    (s.scheduler.service = none →
      (s.scheduler.overdue = 0 → exec .overdueRequest s = .next s) ∧
      (s.scheduler.overdue ≠ 0 →
        ((∀ e ∈ s.scheduler.list.head?.toList, atOrBefore e.due s.time.tb = false) →
          exec .overdueRequest s = .next { s with scheduler := { s.scheduler with overdue := 0 } }) ∧
        ∀ (e : SdlEntry) (rest : List SdlEntry), s.scheduler.list = e :: rest → atOrBefore e.due s.time.tb = true →
          (s.surroundings.answers.head? = some .later → exec .overdueRequest s = .next (inServiceNow e rest true s)) ∧
            (s.surroundings.answers.head? ≠ some .later →
              exec .overdueRequest s = exec .overdueRequest (inServiceNow e rest true s)))) ∧
    ∀ (e : SdlEntry) (late : Bool), s.scheduler.service = some { entry := e, late := late } →
      (late = false → exec .overdueRequest s = .next s) ∧
      (late = true → s.scheduler.overdue ≠ 0 → admissible e.code e.params →
        ∃ (v : State) (st : Status), issuedAlone e s v st ∧
          exec .overdueRequest s = exec .overdueRequest (expiryEnded e true s v st))

/-! ## The report generator -/

/-- NOTICE_REQUEST (R176, R180, R181, R182): a notice is admitted while its class is enabled or UNIT and fewer than 12 reports are held,
complete with its stamp and the suppressed count; else the suppressed count grows. It waits while an earlier request of its
block waits (log entry 3). -/
def Obligations.NoticeRequestJudged : Prop :=
  ∀ (s : State) (n : Notice) (before behind : List Notice), (∀ w ∈ before, w ≠ n) →
    (s.requests = before ++ [n] ++ behind ∨ (s.requests = before ∧ behind = [])) →
    let enabled := noticeClass n = 8 ∨ s.reports.mask.getLsbD (noticeClass n) = true
    ((∃ w ∈ before, requesterOf w = requesterOf n) → exec (.noticeRequest n) s = .next s) ∧
    ((∀ w ∈ before, requesterOf w ≠ requesterOf n) →
      (enabled → s.reports.queue.length < 12 →
        exec (.noticeRequest n) s =
          .next
            { s with
              requests := before ++ behind
              reports :=
                { reportAdded .notice
                    ([BitVec.ofNat 16
                          ((if s.time.isSet then 0 else 32768) + noticeClass n * 256 + s.control.unitAddr.toNat),
                        noticeCode n, s.reports.suppressed, BitVec.ofNat 16 (noticeArgs n).length] ++ noticeArgs n)
                    s with
                  suppressed := 0 } }) ∧
      (¬ enabled ∨ 12 ≤ s.reports.queue.length →
        exec (.noticeRequest n) s =
          .next
            { s with
              requests := before ++ behind
              reports :=
                { s.reports with
                  suppressed := if s.reports.suppressed = 65535 then 65535 else s.reports.suppressed + 1 } }))

/-- REPORT_COMPLETION and RPT_HOLD_CHANGE (R183): a completed head leaves the queue and the next head begins unless RPT_HOLD is asserted;
the completion of a report removed by RESTART FULL removes nothing (R187); a negation of RPT_HOLD lets the head begin. The report
going out is the words of R2, the fields R182 gives and the CRC of R3 at the end. -/
def Obligations.ReportTransmission : Prop :=
  ∀ s : State,
    let r := s.reports
    let next (queue : List Report) (hold : Bool) : RptLink := if queue = [] ∨ hold = true then .quiet else .head
    let words (x : Report) : List Word :=
      let body : List Word :=
        [if x.kind = .response then 0x3000 else 0x4000, 0, x.seq, x.pts.extractLsb' 16 16, x.pts.extractLsb' 0 16,
          BitVec.ofNat 16 x.payload.length] ++ x.payload
      body ++ [crc body]
    (r.link = .quiet → rptWords s = [] ∧ exec .reportCompletion s = .next s) ∧
    (∀ x more, r.link = .head → r.queue = x :: more → rptWords s = words x) ∧
    (∀ x, r.link = .detached x → rptWords s = words x) ∧
    (r.link = .head →
      exec .reportCompletion s =
        .next { s with reports := { r with queue := r.queue.tail, link := next r.queue.tail r.hold } }) ∧
    (∀ x, r.link = .detached x →
      exec .reportCompletion s = .next { s with reports := { r with link := next r.queue r.hold } }) ∧
    ∀ level : Bool,
      exec (.rptHoldChange level) s =
        .next
          { s with
            reports := { r with hold := level, link := if r.link = .quiet then next r.queue level else r.link } }

/-! ## Invariants every step keeps -/

/-- Every step keeps, at each port: a block in reception only in UP (R10), at most 2 blocks in the receive buffer (R16), each with a
payload and a flow that pass the checks of R13, and completed equal to the sum of the five outcome counters until it saturates
(R14); and a store-full flag that is set leaves a recovery threshold unmet (R53). -/
def Obligations.StepKeepsPorts : Prop :=
  ∀ s t : State, PortsOk s → FullFlagOk s → step s = .next t → PortsOk t ∧ FullFlagOk t

/-- Every step keeps the flow table as R25, R26, R32 and R40 describe it: at most 64 entries in ascending identifier, H absent just while
ARMED, the mark of H set otherwise. -/
def Obligations.StepKeepsFlowTable : Prop :=
  ∀ s t : State, FlowTableOk s → step s = .next t → FlowTableOk t

/-- Every step keeps the store's accounting (R47) and the equality of every block's reference count with the number of its holders (R48). -/
def Obligations.StepKeepsStoreAndHolders : Prop :=
  ∀ s t : State, StoreOk s → HoldersOk s → step s = .next t → StoreOk t ∧ HoldersOk t

/-- Every step keeps the shape each lane has in its transport state (R98, R100, R106) and the order of its queue against its datum (R78,
R79). -/
def Obligations.StepKeepsLanes : Prop :=
  ∀ s t : State, LanesOk s → QueuesOk s → step s = .next t → LanesOk t ∧ QueuesOk t

/-- Every step keeps each lane's charge within its quota (R55), its configuration in range (R75) and its grid remainder below CD (R81). -/
def Obligations.StepKeepsChargesAndGrids : Prop :=
  ∀ s t : State, LanesOk s → ChargesOk s → GridsOk s → step s = .next t → ChargesOk t ∧ GridsOk t

/-- Every step keeps: while the time base is UNSET every lane is IDLE, the list is empty and no expiry is in service (R63, R73); a RESTART
in progress waits for a lane and for none twice, and in a RESTART FULL the scheduler and the lanes that have answered stay as it left
them (R137; log entry 27); the list holds at most 32 entries of different serials, each a directive AT admits (R164, R166, R167); and,
no entry having been left due for more than 2^30 ticks, the entries stand in the order of their due times (R164, R168). -/
def Obligations.StepKeepsTimeAndList : Prop :=
  ∀ s t : State, TimeOk s → RestartOk s → SdlOk s → step s = .next t →
    TimeOk t ∧ RestartOk t ∧ SdlOk t ∧ (SdlOrdered s → SdlPrompt s → SdlOrdered t)

/-- Every step keeps the intake, the reply cache, the execution and the report queue within their bounds, no key held twice (R122, R127,
R133, R177, R179), no response longer than 256 words (R6, R131), and an inquiry in progress the one thing the control unit waits for,
with the words its owners have given and an owner still to answer (R129, R143, R146). -/
def Obligations.StepKeepsControlAndReports : Prop :=
  ∀ s t : State, ControlOk s → ExecutionOk s → InquiryOk s → ResponsesFit s → ReportsOk s → step s = .next t →
    ControlOk t ∧ ExecutionOk t ∧ InquiryOk t ∧ ResponsesFit t ∧ ReportsOk t

/-! ## Directives as words -/

/-- The walk of R4 reads 1 to 16 envelopes of at most 64 parameters back from their words, reads nothing else from a control payload, and
every command a directive can be is the one its envelope spells (R5). -/
def Obligations.EnvelopesRoundTrip : Prop :=
  (∀ (p0 p1 : Word) (es : List Envelope), 1 ≤ es.length → es.length ≤ 16 → (∀ e ∈ es, e.params.length ≤ 64) →
    envelopesOf ([p0, p1, BitVec.ofNat 16 es.length] ++ es.flatMap envelopeWords) = some es) ∧
  (∀ (p0 p1 p2 : Word) (ws : List Word) (es : List Envelope), envelopesOf ([p0, p1, p2] ++ ws) = some es →
    p2 = BitVec.ofNat 16 es.length ∧ 1 ≤ es.length ∧ es.length ≤ 16 ∧ (∀ e ∈ es, e.params.length ≤ 64) ∧
      ws = es.flatMap envelopeWords) ∧
  (∀ (i : Instr) (e : Envelope), WellFormed i = true → envelopeOf i = some e → commandOf e = i) ∧
  ∀ e : Envelope, envelopeOf (commandOf e) = some e
end

