-- ==== Sys2Proof/Laws/State.lean ====
section
/-! SUPPORT. What each update of the state leaves in each field: one simp lemma per field per update, true by rfl; and the reads of
ports and lanes after an update of a port or of lanes. -/

namespace Sys2Proof.Machine

@[simp] theorem setPort_ports (p : PortId) (x : Port) (s : State) : (setPort p x s).ports = setPerPort s.ports p x := rfl
@[simp] theorem setPort_classifier (p : PortId) (x : Port) (s : State) : (setPort p x s).classifier = s.classifier := rfl
@[simp] theorem setPort_store (p : PortId) (x : Port) (s : State) : (setPort p x s).store = s.store := rfl
@[simp] theorem setPort_lanes (p : PortId) (x : Port) (s : State) : (setPort p x s).lanes = s.lanes := rfl
@[simp] theorem setPort_time (p : PortId) (x : Port) (s : State) : (setPort p x s).time = s.time := rfl
@[simp] theorem setPort_scheduler (p : PortId) (x : Port) (s : State) : (setPort p x s).scheduler = s.scheduler := rfl
@[simp] theorem setPort_control (p : PortId) (x : Port) (s : State) : (setPort p x s).control = s.control := rfl
@[simp] theorem setPort_reports (p : PortId) (x : Port) (s : State) : (setPort p x s).reports = s.reports := rfl
@[simp] theorem setPort_offers (p : PortId) (x : Port) (s : State) : (setPort p x s).offers = s.offers := rfl
@[simp] theorem setPort_requests (p : PortId) (x : Port) (s : State) : (setPort p x s).requests = s.requests := rfl
@[simp] theorem setPort_surroundings (p : PortId) (x : Port) (s : State) : (setPort p x s).surroundings = s.surroundings := rfl
@[simp] theorem setPort_pending (p : PortId) (x : Port) (s : State) : (setPort p x s).pending = s.pending := rfl

@[simp] theorem setClassifier_ports (x : Classifier) (s : State) : (setClassifier x s).ports = s.ports := rfl
@[simp] theorem setClassifier_classifier (x : Classifier) (s : State) : (setClassifier x s).classifier = x := rfl
@[simp] theorem setClassifier_store (x : Classifier) (s : State) : (setClassifier x s).store = s.store := rfl
@[simp] theorem setClassifier_lanes (x : Classifier) (s : State) : (setClassifier x s).lanes = s.lanes := rfl
@[simp] theorem setClassifier_time (x : Classifier) (s : State) : (setClassifier x s).time = s.time := rfl
@[simp] theorem setClassifier_scheduler (x : Classifier) (s : State) : (setClassifier x s).scheduler = s.scheduler := rfl
@[simp] theorem setClassifier_control (x : Classifier) (s : State) : (setClassifier x s).control = s.control := rfl
@[simp] theorem setClassifier_reports (x : Classifier) (s : State) : (setClassifier x s).reports = s.reports := rfl
@[simp] theorem setClassifier_offers (x : Classifier) (s : State) : (setClassifier x s).offers = s.offers := rfl
@[simp] theorem setClassifier_requests (x : Classifier) (s : State) : (setClassifier x s).requests = s.requests := rfl
@[simp] theorem setClassifier_surroundings (x : Classifier) (s : State) : (setClassifier x s).surroundings = s.surroundings := rfl
@[simp] theorem setClassifier_pending (x : Classifier) (s : State) : (setClassifier x s).pending = s.pending := rfl

@[simp] theorem setTable_ports (x : List FlowEntry) (s : State) : (setTable x s).ports = s.ports := rfl
@[simp] theorem setTable_classifier (x : List FlowEntry) (s : State) : (setTable x s).classifier = { s.classifier with table := x } := rfl
@[simp] theorem setTable_store (x : List FlowEntry) (s : State) : (setTable x s).store = s.store := rfl
@[simp] theorem setTable_lanes (x : List FlowEntry) (s : State) : (setTable x s).lanes = s.lanes := rfl
@[simp] theorem setTable_time (x : List FlowEntry) (s : State) : (setTable x s).time = s.time := rfl
@[simp] theorem setTable_scheduler (x : List FlowEntry) (s : State) : (setTable x s).scheduler = s.scheduler := rfl
@[simp] theorem setTable_control (x : List FlowEntry) (s : State) : (setTable x s).control = s.control := rfl
@[simp] theorem setTable_reports (x : List FlowEntry) (s : State) : (setTable x s).reports = s.reports := rfl
@[simp] theorem setTable_offers (x : List FlowEntry) (s : State) : (setTable x s).offers = s.offers := rfl
@[simp] theorem setTable_requests (x : List FlowEntry) (s : State) : (setTable x s).requests = s.requests := rfl
@[simp] theorem setTable_surroundings (x : List FlowEntry) (s : State) : (setTable x s).surroundings = s.surroundings := rfl
@[simp] theorem setTable_pending (x : List FlowEntry) (s : State) : (setTable x s).pending = s.pending := rfl

@[simp] theorem setStore_ports (x : Store) (s : State) : (setStore x s).ports = s.ports := rfl
@[simp] theorem setStore_classifier (x : Store) (s : State) : (setStore x s).classifier = s.classifier := rfl
@[simp] theorem setStore_store (x : Store) (s : State) : (setStore x s).store = x := rfl
@[simp] theorem setStore_lanes (x : Store) (s : State) : (setStore x s).lanes = s.lanes := rfl
@[simp] theorem setStore_time (x : Store) (s : State) : (setStore x s).time = s.time := rfl
@[simp] theorem setStore_scheduler (x : Store) (s : State) : (setStore x s).scheduler = s.scheduler := rfl
@[simp] theorem setStore_control (x : Store) (s : State) : (setStore x s).control = s.control := rfl
@[simp] theorem setStore_reports (x : Store) (s : State) : (setStore x s).reports = s.reports := rfl
@[simp] theorem setStore_offers (x : Store) (s : State) : (setStore x s).offers = s.offers := rfl
@[simp] theorem setStore_requests (x : Store) (s : State) : (setStore x s).requests = s.requests := rfl
@[simp] theorem setStore_surroundings (x : Store) (s : State) : (setStore x s).surroundings = s.surroundings := rfl
@[simp] theorem setStore_pending (x : Store) (s : State) : (setStore x s).pending = s.pending := rfl

@[simp] theorem setLane_ports (l : LaneId) (x : Lane) (s : State) : (setLane l x s).ports = s.ports := rfl
@[simp] theorem setLane_classifier (l : LaneId) (x : Lane) (s : State) : (setLane l x s).classifier = s.classifier := rfl
@[simp] theorem setLane_store (l : LaneId) (x : Lane) (s : State) : (setLane l x s).store = s.store := rfl
@[simp] theorem setLane_lanes (l : LaneId) (x : Lane) (s : State) : (setLane l x s).lanes = s.lanes.set l x := rfl
@[simp] theorem setLane_time (l : LaneId) (x : Lane) (s : State) : (setLane l x s).time = s.time := rfl
@[simp] theorem setLane_scheduler (l : LaneId) (x : Lane) (s : State) : (setLane l x s).scheduler = s.scheduler := rfl
@[simp] theorem setLane_control (l : LaneId) (x : Lane) (s : State) : (setLane l x s).control = s.control := rfl
@[simp] theorem setLane_reports (l : LaneId) (x : Lane) (s : State) : (setLane l x s).reports = s.reports := rfl
@[simp] theorem setLane_offers (l : LaneId) (x : Lane) (s : State) : (setLane l x s).offers = s.offers := rfl
@[simp] theorem setLane_requests (l : LaneId) (x : Lane) (s : State) : (setLane l x s).requests = s.requests := rfl
@[simp] theorem setLane_surroundings (l : LaneId) (x : Lane) (s : State) : (setLane l x s).surroundings = s.surroundings := rfl
@[simp] theorem setLane_pending (l : LaneId) (x : Lane) (s : State) : (setLane l x s).pending = s.pending := rfl

@[simp] theorem mapLanes_ports (f : LaneId → Lane → Lane) (s : State) : (mapLanes f s).ports = s.ports := by simp only [mapLanes]
@[simp] theorem mapLanes_classifier (f : LaneId → Lane → Lane) (s : State) : (mapLanes f s).classifier = s.classifier := by simp only [mapLanes]
@[simp] theorem mapLanes_store (f : LaneId → Lane → Lane) (s : State) : (mapLanes f s).store = s.store := by simp only [mapLanes]
@[simp] theorem mapLanes_lanes (f : LaneId → Lane → Lane) (s : State) : (mapLanes f s).lanes = Vector.ofFn fun l : LaneId => f l s.lanes[l] := rfl
@[simp] theorem mapLanes_time (f : LaneId → Lane → Lane) (s : State) : (mapLanes f s).time = s.time := by simp only [mapLanes]
@[simp] theorem mapLanes_scheduler (f : LaneId → Lane → Lane) (s : State) : (mapLanes f s).scheduler = s.scheduler := by simp only [mapLanes]
@[simp] theorem mapLanes_control (f : LaneId → Lane → Lane) (s : State) : (mapLanes f s).control = s.control := by simp only [mapLanes]
@[simp] theorem mapLanes_reports (f : LaneId → Lane → Lane) (s : State) : (mapLanes f s).reports = s.reports := by simp only [mapLanes]
@[simp] theorem mapLanes_offers (f : LaneId → Lane → Lane) (s : State) : (mapLanes f s).offers = s.offers := by simp only [mapLanes]
@[simp] theorem mapLanes_requests (f : LaneId → Lane → Lane) (s : State) : (mapLanes f s).requests = s.requests := by simp only [mapLanes]
@[simp] theorem mapLanes_surroundings (f : LaneId → Lane → Lane) (s : State) : (mapLanes f s).surroundings = s.surroundings := by simp only [mapLanes]
@[simp] theorem mapLanes_pending (f : LaneId → Lane → Lane) (s : State) : (mapLanes f s).pending = s.pending := by simp only [mapLanes]

@[simp] theorem setTime_ports (x : TimeBase) (s : State) : (setTime x s).ports = s.ports := rfl
@[simp] theorem setTime_classifier (x : TimeBase) (s : State) : (setTime x s).classifier = s.classifier := rfl
@[simp] theorem setTime_store (x : TimeBase) (s : State) : (setTime x s).store = s.store := rfl
@[simp] theorem setTime_lanes (x : TimeBase) (s : State) : (setTime x s).lanes = s.lanes := rfl
@[simp] theorem setTime_time (x : TimeBase) (s : State) : (setTime x s).time = x := rfl
@[simp] theorem setTime_scheduler (x : TimeBase) (s : State) : (setTime x s).scheduler = s.scheduler := rfl
@[simp] theorem setTime_control (x : TimeBase) (s : State) : (setTime x s).control = s.control := rfl
@[simp] theorem setTime_reports (x : TimeBase) (s : State) : (setTime x s).reports = s.reports := rfl
@[simp] theorem setTime_offers (x : TimeBase) (s : State) : (setTime x s).offers = s.offers := rfl
@[simp] theorem setTime_requests (x : TimeBase) (s : State) : (setTime x s).requests = s.requests := rfl
@[simp] theorem setTime_surroundings (x : TimeBase) (s : State) : (setTime x s).surroundings = s.surroundings := rfl
@[simp] theorem setTime_pending (x : TimeBase) (s : State) : (setTime x s).pending = s.pending := rfl

@[simp] theorem setScheduler_ports (x : Scheduler) (s : State) : (setScheduler x s).ports = s.ports := rfl
@[simp] theorem setScheduler_classifier (x : Scheduler) (s : State) : (setScheduler x s).classifier = s.classifier := rfl
@[simp] theorem setScheduler_store (x : Scheduler) (s : State) : (setScheduler x s).store = s.store := rfl
@[simp] theorem setScheduler_lanes (x : Scheduler) (s : State) : (setScheduler x s).lanes = s.lanes := rfl
@[simp] theorem setScheduler_time (x : Scheduler) (s : State) : (setScheduler x s).time = s.time := rfl
@[simp] theorem setScheduler_scheduler (x : Scheduler) (s : State) : (setScheduler x s).scheduler = x := rfl
@[simp] theorem setScheduler_control (x : Scheduler) (s : State) : (setScheduler x s).control = s.control := rfl
@[simp] theorem setScheduler_reports (x : Scheduler) (s : State) : (setScheduler x s).reports = s.reports := rfl
@[simp] theorem setScheduler_offers (x : Scheduler) (s : State) : (setScheduler x s).offers = s.offers := rfl
@[simp] theorem setScheduler_requests (x : Scheduler) (s : State) : (setScheduler x s).requests = s.requests := rfl
@[simp] theorem setScheduler_surroundings (x : Scheduler) (s : State) : (setScheduler x s).surroundings = s.surroundings := rfl
@[simp] theorem setScheduler_pending (x : Scheduler) (s : State) : (setScheduler x s).pending = s.pending := rfl

@[simp] theorem setControl_ports (x : Control) (s : State) : (setControl x s).ports = s.ports := rfl
@[simp] theorem setControl_classifier (x : Control) (s : State) : (setControl x s).classifier = s.classifier := rfl
@[simp] theorem setControl_store (x : Control) (s : State) : (setControl x s).store = s.store := rfl
@[simp] theorem setControl_lanes (x : Control) (s : State) : (setControl x s).lanes = s.lanes := rfl
@[simp] theorem setControl_time (x : Control) (s : State) : (setControl x s).time = s.time := rfl
@[simp] theorem setControl_scheduler (x : Control) (s : State) : (setControl x s).scheduler = s.scheduler := rfl
@[simp] theorem setControl_control (x : Control) (s : State) : (setControl x s).control = x := rfl
@[simp] theorem setControl_reports (x : Control) (s : State) : (setControl x s).reports = s.reports := rfl
@[simp] theorem setControl_offers (x : Control) (s : State) : (setControl x s).offers = s.offers := rfl
@[simp] theorem setControl_requests (x : Control) (s : State) : (setControl x s).requests = s.requests := rfl
@[simp] theorem setControl_surroundings (x : Control) (s : State) : (setControl x s).surroundings = s.surroundings := rfl
@[simp] theorem setControl_pending (x : Control) (s : State) : (setControl x s).pending = s.pending := rfl

@[simp] theorem setReports_ports (x : Reports) (s : State) : (setReports x s).ports = s.ports := rfl
@[simp] theorem setReports_classifier (x : Reports) (s : State) : (setReports x s).classifier = s.classifier := rfl
@[simp] theorem setReports_store (x : Reports) (s : State) : (setReports x s).store = s.store := rfl
@[simp] theorem setReports_lanes (x : Reports) (s : State) : (setReports x s).lanes = s.lanes := rfl
@[simp] theorem setReports_time (x : Reports) (s : State) : (setReports x s).time = s.time := rfl
@[simp] theorem setReports_scheduler (x : Reports) (s : State) : (setReports x s).scheduler = s.scheduler := rfl
@[simp] theorem setReports_control (x : Reports) (s : State) : (setReports x s).control = s.control := rfl
@[simp] theorem setReports_reports (x : Reports) (s : State) : (setReports x s).reports = x := rfl
@[simp] theorem setReports_offers (x : Reports) (s : State) : (setReports x s).offers = s.offers := rfl
@[simp] theorem setReports_requests (x : Reports) (s : State) : (setReports x s).requests = s.requests := rfl
@[simp] theorem setReports_surroundings (x : Reports) (s : State) : (setReports x s).surroundings = s.surroundings := rfl
@[simp] theorem setReports_pending (x : Reports) (s : State) : (setReports x s).pending = s.pending := rfl

@[simp] theorem setOffers_ports (x : List Offer) (s : State) : (setOffers x s).ports = s.ports := rfl
@[simp] theorem setOffers_classifier (x : List Offer) (s : State) : (setOffers x s).classifier = s.classifier := rfl
@[simp] theorem setOffers_store (x : List Offer) (s : State) : (setOffers x s).store = s.store := rfl
@[simp] theorem setOffers_lanes (x : List Offer) (s : State) : (setOffers x s).lanes = s.lanes := rfl
@[simp] theorem setOffers_time (x : List Offer) (s : State) : (setOffers x s).time = s.time := rfl
@[simp] theorem setOffers_scheduler (x : List Offer) (s : State) : (setOffers x s).scheduler = s.scheduler := rfl
@[simp] theorem setOffers_control (x : List Offer) (s : State) : (setOffers x s).control = s.control := rfl
@[simp] theorem setOffers_reports (x : List Offer) (s : State) : (setOffers x s).reports = s.reports := rfl
@[simp] theorem setOffers_offers (x : List Offer) (s : State) : (setOffers x s).offers = x := rfl
@[simp] theorem setOffers_requests (x : List Offer) (s : State) : (setOffers x s).requests = s.requests := rfl
@[simp] theorem setOffers_surroundings (x : List Offer) (s : State) : (setOffers x s).surroundings = s.surroundings := rfl
@[simp] theorem setOffers_pending (x : List Offer) (s : State) : (setOffers x s).pending = s.pending := rfl

@[simp] theorem setRequests_ports (x : List Notice) (s : State) : (setRequests x s).ports = s.ports := rfl
@[simp] theorem setRequests_classifier (x : List Notice) (s : State) : (setRequests x s).classifier = s.classifier := rfl
@[simp] theorem setRequests_store (x : List Notice) (s : State) : (setRequests x s).store = s.store := rfl
@[simp] theorem setRequests_lanes (x : List Notice) (s : State) : (setRequests x s).lanes = s.lanes := rfl
@[simp] theorem setRequests_time (x : List Notice) (s : State) : (setRequests x s).time = s.time := rfl
@[simp] theorem setRequests_scheduler (x : List Notice) (s : State) : (setRequests x s).scheduler = s.scheduler := rfl
@[simp] theorem setRequests_control (x : List Notice) (s : State) : (setRequests x s).control = s.control := rfl
@[simp] theorem setRequests_reports (x : List Notice) (s : State) : (setRequests x s).reports = s.reports := rfl
@[simp] theorem setRequests_offers (x : List Notice) (s : State) : (setRequests x s).offers = s.offers := rfl
@[simp] theorem setRequests_requests (x : List Notice) (s : State) : (setRequests x s).requests = x := rfl
@[simp] theorem setRequests_surroundings (x : List Notice) (s : State) : (setRequests x s).surroundings = s.surroundings := rfl
@[simp] theorem setRequests_pending (x : List Notice) (s : State) : (setRequests x s).pending = s.pending := rfl

@[simp] theorem setSurroundings_ports (x : Surroundings) (s : State) : (setSurroundings x s).ports = s.ports := rfl
@[simp] theorem setSurroundings_classifier (x : Surroundings) (s : State) : (setSurroundings x s).classifier = s.classifier := rfl
@[simp] theorem setSurroundings_store (x : Surroundings) (s : State) : (setSurroundings x s).store = s.store := rfl
@[simp] theorem setSurroundings_lanes (x : Surroundings) (s : State) : (setSurroundings x s).lanes = s.lanes := rfl
@[simp] theorem setSurroundings_time (x : Surroundings) (s : State) : (setSurroundings x s).time = s.time := rfl
@[simp] theorem setSurroundings_scheduler (x : Surroundings) (s : State) : (setSurroundings x s).scheduler = s.scheduler := rfl
@[simp] theorem setSurroundings_control (x : Surroundings) (s : State) : (setSurroundings x s).control = s.control := rfl
@[simp] theorem setSurroundings_reports (x : Surroundings) (s : State) : (setSurroundings x s).reports = s.reports := rfl
@[simp] theorem setSurroundings_offers (x : Surroundings) (s : State) : (setSurroundings x s).offers = s.offers := rfl
@[simp] theorem setSurroundings_requests (x : Surroundings) (s : State) : (setSurroundings x s).requests = s.requests := rfl
@[simp] theorem setSurroundings_surroundings (x : Surroundings) (s : State) : (setSurroundings x s).surroundings = x := rfl
@[simp] theorem setSurroundings_pending (x : Surroundings) (s : State) : (setSurroundings x s).pending = s.pending := rfl

@[simp] theorem request_ports (n : Notice) (s : State) : (request n s).ports = s.ports := rfl
@[simp] theorem request_classifier (n : Notice) (s : State) : (request n s).classifier = s.classifier := rfl
@[simp] theorem request_store (n : Notice) (s : State) : (request n s).store = s.store := rfl
@[simp] theorem request_lanes (n : Notice) (s : State) : (request n s).lanes = s.lanes := rfl
@[simp] theorem request_time (n : Notice) (s : State) : (request n s).time = s.time := rfl
@[simp] theorem request_scheduler (n : Notice) (s : State) : (request n s).scheduler = s.scheduler := rfl
@[simp] theorem request_control (n : Notice) (s : State) : (request n s).control = s.control := rfl
@[simp] theorem request_reports (n : Notice) (s : State) : (request n s).reports = s.reports := rfl
@[simp] theorem request_offers (n : Notice) (s : State) : (request n s).offers = s.offers := rfl
@[simp] theorem request_requests (n : Notice) (s : State) : (request n s).requests = s.requests ++ [n] := rfl
@[simp] theorem request_surroundings (n : Notice) (s : State) : (request n s).surroundings = s.surroundings := rfl
@[simp] theorem request_pending (n : Notice) (s : State) : (request n s).pending = s.pending := rfl

@[simp] theorem requestAll_ports (ns : List Notice) (s : State) : (requestAll ns s).ports = s.ports := rfl
@[simp] theorem requestAll_classifier (ns : List Notice) (s : State) : (requestAll ns s).classifier = s.classifier := rfl
@[simp] theorem requestAll_store (ns : List Notice) (s : State) : (requestAll ns s).store = s.store := rfl
@[simp] theorem requestAll_lanes (ns : List Notice) (s : State) : (requestAll ns s).lanes = s.lanes := rfl
@[simp] theorem requestAll_time (ns : List Notice) (s : State) : (requestAll ns s).time = s.time := rfl
@[simp] theorem requestAll_scheduler (ns : List Notice) (s : State) : (requestAll ns s).scheduler = s.scheduler := rfl
@[simp] theorem requestAll_control (ns : List Notice) (s : State) : (requestAll ns s).control = s.control := rfl
@[simp] theorem requestAll_reports (ns : List Notice) (s : State) : (requestAll ns s).reports = s.reports := rfl
@[simp] theorem requestAll_offers (ns : List Notice) (s : State) : (requestAll ns s).offers = s.offers := rfl
@[simp] theorem requestAll_requests (ns : List Notice) (s : State) : (requestAll ns s).requests = s.requests ++ ns := rfl
@[simp] theorem requestAll_surroundings (ns : List Notice) (s : State) : (requestAll ns s).surroundings = s.surroundings := rfl
@[simp] theorem requestAll_pending (ns : List Notice) (s : State) : (requestAll ns s).pending = s.pending := rfl

/-! ## Ports -/

@[simp] theorem perPort_setPerPort_same {α : Type} (x : PerPort α) (p : PortId) (v : α) : perPort (setPerPort x p v) p = v := by
  cases p <;> rfl

@[simp] theorem perPort_setPerPort_other {α : Type} (x : PerPort α) (p : PortId) (v : α) :
    perPort (setPerPort x p v) (otherPort p) = perPort x (otherPort p) := by
  cases p <;> rfl

@[simp] theorem setPerPort_setPerPort {α : Type} (x : PerPort α) (p : PortId) (v w : α) :
    setPerPort (setPerPort x p v) p w = setPerPort x p w := by
  cases p <;> rfl

@[simp] theorem otherPort_otherPort (p : PortId) : otherPort (otherPort p) = p := by cases p <;> rfl

@[simp] theorem portOf_setPort_same (p : PortId) (x : Port) (s : State) : portOf (setPort p x s) p = x := by
  cases p <;> rfl

@[simp] theorem portOf_setPort_other (p : PortId) (x : Port) (s : State) :
    portOf (setPort p x s) (otherPort p) = portOf s (otherPort p) := by
  cases p <;> rfl

/-! ## Lanes -/

theorem laneOf_setLane (l k : LaneId) (x : Lane) (s : State) :
    laneOf (setLane l x s) k = if k = l then x else laneOf s k := by
  simp only [laneOf, setLane, Fin.getElem_fin, Vector.getElem_set, Fin.ext_iff, eq_comm]

@[simp] theorem laneOf_setLane_same (l : LaneId) (x : Lane) (s : State) : laneOf (setLane l x s) l = x := by
  simp [laneOf_setLane]

theorem laneOf_setLane_other {l k : LaneId} (h : k ≠ l) (x : Lane) (s : State) :
    laneOf (setLane l x s) k = laneOf s k := by
  simp [laneOf_setLane, h]

@[simp] theorem laneOf_mapLanes (f : LaneId → Lane → Lane) (s : State) (l : LaneId) :
    laneOf (mapLanes f s) l = f l (laneOf s l) := by
  simp [laneOf, mapLanes]

@[simp] theorem laneOf_setPort (p : PortId) (x : Port) (s : State) (k : LaneId) : laneOf (setPort p x s) k = laneOf s k := rfl
@[simp] theorem laneOf_setClassifier (x : Classifier) (s : State) (k : LaneId) : laneOf (setClassifier x s) k = laneOf s k := rfl
@[simp] theorem laneOf_setTable (x : List FlowEntry) (s : State) (k : LaneId) : laneOf (setTable x s) k = laneOf s k := rfl
@[simp] theorem laneOf_setStore (x : Store) (s : State) (k : LaneId) : laneOf (setStore x s) k = laneOf s k := rfl
@[simp] theorem laneOf_setTime (x : TimeBase) (s : State) (k : LaneId) : laneOf (setTime x s) k = laneOf s k := rfl
@[simp] theorem laneOf_setScheduler (x : Scheduler) (s : State) (k : LaneId) : laneOf (setScheduler x s) k = laneOf s k := rfl
@[simp] theorem laneOf_setControl (x : Control) (s : State) (k : LaneId) : laneOf (setControl x s) k = laneOf s k := rfl
@[simp] theorem laneOf_setReports (x : Reports) (s : State) (k : LaneId) : laneOf (setReports x s) k = laneOf s k := rfl
@[simp] theorem laneOf_setOffers (x : List Offer) (s : State) (k : LaneId) : laneOf (setOffers x s) k = laneOf s k := rfl
@[simp] theorem laneOf_setRequests (x : List Notice) (s : State) (k : LaneId) : laneOf (setRequests x s) k = laneOf s k := rfl
@[simp] theorem laneOf_setSurroundings (x : Surroundings) (s : State) (k : LaneId) : laneOf (setSurroundings x s) k = laneOf s k := rfl
@[simp] theorem laneOf_request (n : Notice) (s : State) (k : LaneId) : laneOf (request n s) k = laneOf s k := rfl
@[simp] theorem laneOf_requestAll (ns : List Notice) (s : State) (k : LaneId) : laneOf (requestAll ns s) k = laneOf s k := rfl

@[simp] theorem portOf_setClassifier (x : Classifier) (s : State) (q : PortId) : portOf (setClassifier x s) q = portOf s q := rfl
@[simp] theorem portOf_setTable (x : List FlowEntry) (s : State) (q : PortId) : portOf (setTable x s) q = portOf s q := rfl
@[simp] theorem portOf_setStore (x : Store) (s : State) (q : PortId) : portOf (setStore x s) q = portOf s q := rfl
@[simp] theorem portOf_setLane (l : LaneId) (x : Lane) (s : State) (q : PortId) : portOf (setLane l x s) q = portOf s q := rfl
@[simp] theorem portOf_mapLanes (f : LaneId → Lane → Lane) (s : State) (q : PortId) : portOf (mapLanes f s) q = portOf s q := by
  simp only [portOf, mapLanes]
@[simp] theorem portOf_setTime (x : TimeBase) (s : State) (q : PortId) : portOf (setTime x s) q = portOf s q := rfl
@[simp] theorem portOf_setScheduler (x : Scheduler) (s : State) (q : PortId) : portOf (setScheduler x s) q = portOf s q := rfl
@[simp] theorem portOf_setControl (x : Control) (s : State) (q : PortId) : portOf (setControl x s) q = portOf s q := rfl
@[simp] theorem portOf_setReports (x : Reports) (s : State) (q : PortId) : portOf (setReports x s) q = portOf s q := rfl
@[simp] theorem portOf_setOffers (x : List Offer) (s : State) (q : PortId) : portOf (setOffers x s) q = portOf s q := rfl
@[simp] theorem portOf_setRequests (x : List Notice) (s : State) (q : PortId) : portOf (setRequests x s) q = portOf s q := rfl
@[simp] theorem portOf_setSurroundings (x : Surroundings) (s : State) (q : PortId) : portOf (setSurroundings x s) q = portOf s q := rfl
@[simp] theorem portOf_request (n : Notice) (s : State) (q : PortId) : portOf (request n s) q = portOf s q := rfl
@[simp] theorem portOf_requestAll (ns : List Notice) (s : State) (q : PortId) : portOf (requestAll ns s) q = portOf s q := rfl

end Sys2Proof.Machine
end

