-- ==== Sys2Proof/Laws/Ops.lean ====
section
/-! SUPPORT. What the shared operations of Machine/Ops.lean and Machine/Flags.lean do, once each: the store operations, effects, requests, and the report
generator's admission and transmission. -/

namespace Sys2Proof.Machine

/-! ## The block store -/

/-- A failed allocation changes the flag and may request STORE_FULL (R53). -/
theorem allocationFailed_eq (s : State) :
    allocationFailed s =
      { s with
        store := { s.store with fullFlag := true }
        requests := s.requests ++ if s.store.fullFlag then [] else [storeFullNotice s.store] } := by
  unfold allocationFailed
  split
  · next h =>
    obtain ⟨_, _, ⟨_, _, _, _⟩, _, _, _, _, _, _, _, _⟩ := s
    simp_all
  · simp [request, setRequests, setStore]

/-- Recovery judged after a free (R53). -/
theorem judgeRecovery_eq (s : State) :
    judgeRecovery s =
      { s with
        store := { s.store with fullFlag := s.store.fullFlag && !recovered s.store }
        requests :=
          s.requests ++
            if recovered s.store then [.storeRecovered (word s.store.freeCells) (word s.store.freeRecords)] else [] } := by
  unfold judgeRecovery
  split
  · next h => simp [h, request, setRequests, setStore]
  · next h => simp [h]

/-- A release of a reference to no stored block changes nothing. -/
theorem release_absent {ref : Nat} {s : State} (h : recordOf s.store ref = none) : release ref s = s := by
  simp [release, h]

/-- A release that leaves holders (R52). -/
theorem release_kept {ref : Nat} {s : State} {r : Record} (h : recordOf s.store ref = some r) (hr : 2 ≤ r.holders) :
    release ref s = { s with store := { s.store with records := mapHolders ref (· - 1) s.store.records } } := by
  simp [release, h, show ¬ r.holders ≤ 1 by omega, setStore]

/-- A release of the last holder frees the block and judges recovery (R52, R53). -/
theorem release_freed {ref : Nat} {s : State} {r : Record} (h : recordOf s.store ref = some r) (hr : r.holders ≤ 1) :
    release ref s = judgeRecovery (setStore (dropRecord r s.store) s) := by
  simp [release, h, hr]

/-- A release touches the store and the requests alone. -/
theorem release_eq (ref : Nat) (s : State) :
    release ref s = { s with store := (release ref s).store, requests := (release ref s).requests } := by
  unfold release
  split
  · rfl
  · split
    · rw [judgeRecovery_eq]; rfl
    · rfl

/-- An addition of a holder touches the records alone (R51). -/
theorem addHolder_eq (ref : Nat) (s : State) :
    addHolder ref s = { s with store := { s.store with records := mapHolders ref (· + 1) s.store.records } } := rfl

/-- An effect touches the store and the requests alone. -/
theorem applyEffect_eq (s : State) (fx : Effect) :
    applyEffect s fx =
      { s with store := (applyEffect s fx).store, requests := (applyEffect s fx).requests } := by
  cases fx with
  | release ref => exact release_eq ref s
  | request n => rfl

@[simp] theorem applyEffects_nil (s : State) : applyEffects [] s = s := rfl

@[simp] theorem applyEffects_cons (fx : Effect) (rest : List Effect) (s : State) :
    applyEffects (fx :: rest) s = applyEffects rest (applyEffect s fx) := rfl

theorem applyEffects_append (as bs : List Effect) (s : State) :
    applyEffects (as ++ bs) s = applyEffects bs (applyEffects as s) := by
  simp [applyEffects]

/-- Effects touch the store and the requests alone. -/
theorem applyEffects_eq (fx : List Effect) (s : State) :
    applyEffects fx s = { s with store := (applyEffects fx s).store, requests := (applyEffects fx s).requests } := by
  induction fx generalizing s with
  | nil => rfl
  | cons a rest ih => rw [applyEffects_cons, ih, applyEffect_eq]

/-- Effects only add requests behind those that wait. -/
theorem applyEffect_requests (s : State) (fx : Effect) : ∃ more, (applyEffect s fx).requests = s.requests ++ more := by
  cases fx with
  | request n => exact ⟨[n], rfl⟩
  | release ref =>
    simp only [applyEffect, release]
    split
    · exact ⟨[], by simp⟩
    · split
      · rw [judgeRecovery_eq]; exact ⟨_, rfl⟩
      · exact ⟨[], by simp⟩

theorem applyEffects_requests (fx : List Effect) (s : State) :
    ∃ more, (applyEffects fx s).requests = s.requests ++ more := by
  induction fx generalizing s with
  | nil => exact ⟨[], by simp⟩
  | cons a rest ih =>
    obtain ⟨m1, h1⟩ := ih (applyEffect s a)
    obtain ⟨m2, h2⟩ := applyEffect_requests s a
    exact ⟨m2 ++ m1, by simp [h1, h2]⟩

/-- Effects that request nothing and release nothing beyond what is stored: requests alone leave the store. -/
theorem applyEffects_requestsOnly (ns : List Notice) (s : State) :
    applyEffects (ns.map .request) s = requestAll ns s := by
  induction ns generalizing s with
  | nil => simp [requestAll, setRequests]
  | cons n rest ih => simp [ih, applyEffect, request, requestAll, setRequests]

@[simp] theorem release_ports (ref : Nat) (s : State) : (release ref s).ports = s.ports := by
  rw [release_eq]
@[simp] theorem release_classifier (ref : Nat) (s : State) : (release ref s).classifier = s.classifier := by
  rw [release_eq]
@[simp] theorem release_lanes (ref : Nat) (s : State) : (release ref s).lanes = s.lanes := by
  rw [release_eq]
@[simp] theorem release_time (ref : Nat) (s : State) : (release ref s).time = s.time := by
  rw [release_eq]
@[simp] theorem release_scheduler (ref : Nat) (s : State) : (release ref s).scheduler = s.scheduler := by
  rw [release_eq]
@[simp] theorem release_control (ref : Nat) (s : State) : (release ref s).control = s.control := by
  rw [release_eq]
@[simp] theorem release_reports (ref : Nat) (s : State) : (release ref s).reports = s.reports := by
  rw [release_eq]
@[simp] theorem release_offers (ref : Nat) (s : State) : (release ref s).offers = s.offers := by
  rw [release_eq]
@[simp] theorem release_surroundings (ref : Nat) (s : State) : (release ref s).surroundings = s.surroundings := by
  rw [release_eq]
@[simp] theorem release_pending (ref : Nat) (s : State) : (release ref s).pending = s.pending := by
  rw [release_eq]
@[simp] theorem laneOf_release (ref : Nat) (s : State) (l : LaneId) : laneOf (release ref s) l = laneOf s l := by
  rw [release_eq]; rfl

@[simp] theorem addHolder_ports (ref : Nat) (s : State) : (addHolder ref s).ports = s.ports := rfl
@[simp] theorem addHolder_classifier (ref : Nat) (s : State) : (addHolder ref s).classifier = s.classifier := rfl
@[simp] theorem addHolder_lanes (ref : Nat) (s : State) : (addHolder ref s).lanes = s.lanes := rfl
@[simp] theorem addHolder_time (ref : Nat) (s : State) : (addHolder ref s).time = s.time := rfl
@[simp] theorem addHolder_scheduler (ref : Nat) (s : State) : (addHolder ref s).scheduler = s.scheduler := rfl
@[simp] theorem addHolder_control (ref : Nat) (s : State) : (addHolder ref s).control = s.control := rfl
@[simp] theorem addHolder_reports (ref : Nat) (s : State) : (addHolder ref s).reports = s.reports := rfl
@[simp] theorem addHolder_offers (ref : Nat) (s : State) : (addHolder ref s).offers = s.offers := rfl
@[simp] theorem addHolder_surroundings (ref : Nat) (s : State) : (addHolder ref s).surroundings = s.surroundings := rfl
@[simp] theorem addHolder_requests (ref : Nat) (s : State) : (addHolder ref s).requests = s.requests := rfl
@[simp] theorem addHolder_pending (ref : Nat) (s : State) : (addHolder ref s).pending = s.pending := rfl
@[simp] theorem laneOf_addHolder (ref : Nat) (s : State) (l : LaneId) : laneOf (addHolder ref s) l = laneOf s l := rfl

@[simp] theorem applyEffects_ports (fx : List Effect) (s : State) : (applyEffects fx s).ports = s.ports := by
  rw [applyEffects_eq]
@[simp] theorem applyEffects_classifier (fx : List Effect) (s : State) : (applyEffects fx s).classifier = s.classifier := by
  rw [applyEffects_eq]
@[simp] theorem applyEffects_lanes (fx : List Effect) (s : State) : (applyEffects fx s).lanes = s.lanes := by
  rw [applyEffects_eq]
@[simp] theorem applyEffects_time (fx : List Effect) (s : State) : (applyEffects fx s).time = s.time := by
  rw [applyEffects_eq]
@[simp] theorem applyEffects_scheduler (fx : List Effect) (s : State) : (applyEffects fx s).scheduler = s.scheduler := by
  rw [applyEffects_eq]
@[simp] theorem applyEffects_control (fx : List Effect) (s : State) : (applyEffects fx s).control = s.control := by
  rw [applyEffects_eq]
@[simp] theorem applyEffects_reports (fx : List Effect) (s : State) : (applyEffects fx s).reports = s.reports := by
  rw [applyEffects_eq]
@[simp] theorem applyEffects_offers (fx : List Effect) (s : State) : (applyEffects fx s).offers = s.offers := by
  rw [applyEffects_eq]
@[simp] theorem applyEffects_surroundings (fx : List Effect) (s : State) : (applyEffects fx s).surroundings = s.surroundings := by
  rw [applyEffects_eq]
@[simp] theorem applyEffects_pending (fx : List Effect) (s : State) : (applyEffects fx s).pending = s.pending := by
  rw [applyEffects_eq]
@[simp] theorem laneOf_applyEffects (fx : List Effect) (s : State) (l : LaneId) : laneOf (applyEffects fx s) l = laneOf s l := by
  rw [applyEffects_eq]; rfl

/-! ## The report generator -/

/-- The head begins when RPT is quiet, RPT_HOLD is negated and the queue is not empty (R183); nothing else changes. -/
theorem beginTransmission_eq (r : Reports) :
    beginTransmission r =
      { r with link := if r.link = .quiet ∧ r.hold = false ∧ r.queue ≠ [] then .head else r.link } := by
  unfold beginTransmission
  split <;> rfl

/-- An admission (R178, R182, R183). -/
theorem pushReport_eq (kind : ReportKind) (payload : List Word) (s : State) :
    pushReport kind payload s =
      { s with
        reports :=
          { s.reports with
            queue := s.reports.queue ++
              [{ kind := kind, seq := s.reports.seq, pts := s.time.tb, payload := stampUnset s.time.isSet payload }]
            seq := s.reports.seq + 1
            link := if s.reports.link = .quiet ∧ s.reports.hold = false then .head else s.reports.link } } := by
  simp [pushReport, beginTransmission_eq, setReports]

/-- A notice admitted (R180, R181). -/
theorem admitNotice_eq (n : Notice) (s : State) :
    admitNotice n s =
      pushReport .notice (noticePayload s.control.unitAddr s.reports.suppressed n)
        { s with reports := { s.reports with suppressed := 0 } } := rfl

/-- A notice refused (R181). -/
theorem refuseNotice_eq (s : State) :
    refuseNotice s =
      { s with reports := { s.reports with suppressed := word (min (s.reports.suppressed.toNat + 1) 65535) } } := rfl

/-- A notice served touches the report generator alone (R180). -/
theorem serveNotice_eq (n : Notice) (s : State) : serveNotice n s = { s with reports := (serveNotice n s).reports } := by
  unfold serveNotice
  split
  · rw [admitNotice_eq, pushReport_eq]
  · rfl

/-! ## Sticky flags -/

/-- A port error (R18). -/
theorem portError_eq (p : PortId) (s : State) :
    portError p s =
      { s with
        ports := setPerPort s.ports p { portOf s p with errorFlag := true }
        requests := s.requests ++ if (portOf s p).errorFlag then [] else [.portErrors p] } := by
  unfold portError
  split
  · next h =>
    cases p <;> simp_all [portOf, perPort, setPerPort]
    all_goals
      obtain ⟨ports, _, _, _, _, _, _, _, _, _, _⟩ := s
      obtain ⟨⟨_, _, _, _, _⟩, ⟨_, _, _, _, _⟩⟩ := ports
      simp_all
  · simp [request, setRequests, setPort]

/-- An intake overrun (R126). -/
theorem intakeOverrun_eq (s : State) :
    intakeOverrun s =
      { s with
        control :=
          { s.control with
            counters := { s.control.counters with overrun := bump s.control.counters.overrun }
            overrunFlag := true }
        requests := s.requests ++ if s.control.overrunFlag then [] else [.controlOverrun] } := by
  simp only [intakeOverrun]
  split
  · next h => simp [h, setControl]
  · simp [request, setRequests, setControl]

/-- A refusal for lack of room (R60). -/
theorem refusedForRoom_eq (l : LaneId) (k : RefusalKind) (s : State) :
    refusedForRoom l k s =
      if (laneOf s l).refused then s
      else
        { s with
          lanes := s.lanes.set l { laneOf s l with refused := true }
          requests := s.requests ++ [.laneRefused l k] } := by
  unfold refusedForRoom
  split <;> rfl

/-- An overrun slot (R90): the lane afterwards. -/
theorem laneOf_overrunSlot (l : LaneId) (s : State) :
    laneOf (overrunSlot l s) l =
      { laneOf s l with
        counters := { (laneOf s l).counters with overruns := bump (laneOf s l).counters.overruns }
        overrun := true } := by
  simp only [overrunSlot]
  split
  · next h => simp [h]
  · simp

/-- An overrun slot (R90): its request. -/
theorem overrunSlot_requests (l : LaneId) (s : State) :
    (overrunSlot l s).requests = s.requests ++ if (laneOf s l).overrun then [] else [.laneOverrun l] := by
  simp only [overrunSlot]
  split <;> simp

end Sys2Proof.Machine
end

