-- ==== Sys2Proof/Laws/Control.lean ====
section
/-! SUPPORT. What the issue of a directive, an answer and a finish can do, once each: the statements about directives rest on
these. -/

namespace Sys2Proof.Machine

open Sys2Proof.Safety

/-- An issued directive leaves its owner's answer received by the control unit. -/
theorem issueDirective_of_mayIssue {d : Directive} {ps : List Word} {s : State} (h : mayIssue d ps s)
    (serve : List Word → Nat → State → Answer) :
    issueDirective d ps serve s =
      answered d (serve ps (roomFor s) s).status (serve ps (roomFor s) s).results (serve ps (roomFor s) s).state := by
  have h' : issuable { code := directiveCode d, params := ps } s = true := h
  simp [issueDirective, issue, h', answered]

/-- A directive that may not be issued changes nothing. -/
theorem issueDirective_of_not {d : Directive} {ps : List Word} {s : State} (h : ¬ mayIssue d ps s)
    (serve : List Word → Nat → State → Answer) : issueDirective d ps serve s = s := by
  have h' : ¬ issuable { code := directiveCode d, params := ps } s = true := h
  simp [issueDirective, issue, h']

/-- An unknown code issued is answered UNKNOWN. -/
theorem issue_of_issuable {e : Envelope} {s : State} (h : issuable e s = true) (serve : Nat → State → Answer) :
    issue e serve s =
      conclude
        { code := e.code, status := (serve (roomFor s) s).status, results := (serve (roomFor s) s).results }
        (serve (roomFor s) s).state := by
  simp [issue, h]

/-- A read gives its words within the room. -/
theorem readOut_of_le {room : Nat} {ws : List Word} {s : State} (h : ws.length ≤ room) :
    readOut room ws s = { status := .ok, results := ws, state := s } := by simp [readOut, h]

/-- A read beyond the room is refused. -/
theorem readOut_of_lt {room : Nat} {ws : List Word} {s : State} (h : room < ws.length) :
    readOut room ws s = refuse .noRoom s := by simp [readOut, Nat.not_le.mpr h]

/-- The form stage's failure is the answer. -/
@[simp] theorem afterForm_error {α : Type} (st : Status) (owner : α → Answer) (s : State) :
    afterForm (.error st) owner s = refuse st s := rfl

/-- A form that passes leaves the answer to the owner. -/
@[simp] theorem afterForm_ok {α : Type} (x : α) (owner : α → Answer) (s : State) :
    afterForm (.ok x) owner s = owner x := rfl

@[simp] theorem refuse_status (st : Status) (s : State) : (refuse st s).status = st := rfl
@[simp] theorem refuse_results (st : Status) (s : State) : (refuse st s).results = [] := rfl
@[simp] theorem refuse_state (st : Status) (s : State) : (refuse st s).state = s := rfl
@[simp] theorem done_status (s : State) : (done s).status = .ok := rfl
@[simp] theorem done_results (s : State) : (done s).results = [] := rfl
@[simp] theorem done_state (s : State) : (done s).state = s := rfl

/-- A lane parameter in range names its lane. -/
theorem laneParam_of_eq {w : Word} {l : LaneId} (h : w.toNat = l.val) : laneParam w = .ok l := by
  have : w.toNat < 16 := by omega
  simp [laneParam, this]
  exact Fin.ext h

/-- A lane parameter above 15. -/
theorem laneParam_of_le {w : Word} (h : 16 ≤ w.toNat) : laneParam w = .error .badLane := by
  simp [laneParam, Nat.not_lt.mpr h]

/-- A report admitted, in the words of the statements. -/
theorem pushReport_added (kind : ReportKind) (payload : List Word) (s : State) :
    pushReport kind payload s =
      { s with reports := reportAdded kind (stampUnset s.time.isSet payload) s } := by
  simp only [pushReport, setReports, beginTransmission, reportAdded, linkAfterAdmission]
  by_cases h : s.reports.link = .quiet ∧ s.reports.hold = false <;> simp [h]

/-- The words of a directive entry in a response (R6). -/
theorem entryWords_length (e : ResultEntry) : (entryWords e).length = 2 + e.results.length := by
  simp [entryWords]; omega

/-- The length of a response payload (R6). -/
theorem responsePayload_length (unit : BitVec 6) (b : IntakeEntry) (status : BlockStatus) (es : List ResultEntry) :
    (responsePayload unit b status es).length = 4 + 2 * es.length + wordsGiven es := by
  have : ∀ es : List ResultEntry, (es.flatMap entryWords).length = 2 * es.length + wordsGiven es := by
    intro es
    induction es with
    | nil => rfl
    | cons e es ih =>
      simp only [List.flatMap_cons, List.length_append, entryWords_length, ih, wordsGiven, List.map_cons, List.sum_cons,
        List.length_cons]
      omega
  simp [responsePayload, this]
  omega

/-- The words of a directive entry, as a response lays them out (R6). -/
theorem entryWords_eq (e : ResultEntry) :
    entryWords e =
      [BitVec.ofNat 16 (e.code.toNat * 256 + (statusCode e.status).toNat), BitVec.ofNat 16 e.results.length] ++ e.results := by
  have h : (e.code ++ statusCode e.status : BitVec 16) = BitVec.ofNat 16 (e.code.toNat * 256 + (statusCode e.status).toNat) := by
    apply BitVec.eq_of_toNat_eq
    have := e.code.isLt
    have := (statusCode e.status).isLt
    simp only [BitVec.toNat_append, BitVec.toNat_ofNat, Nat.shiftLeft_eq]
    rw [← Nat.shiftLeft_eq, ← Nat.shiftLeft_add_eq_or_of_lt (by omega), Nat.shiftLeft_eq]
    omega
  simp [entryWords, h, word]

/-- A response as the statements write it (R6). -/
theorem responsePayload_eq (unit : BitVec 6) (b : IntakeEntry) (status : BlockStatus) (es : List ResultEntry) :
    responsePayload unit b status es =
      responseOf unit b (match status with | .complete => 0 | .stopped => 1 | .malformed => 2) es := by
  have h : (0#4 ++ blockStatusCode status ++ unit.setWidth 8 : BitVec 16) =
      BitVec.ofNat 16 ((match status with | .complete => 0 | .stopped => 1 | .malformed => 2) * 256 + unit.toNat) := by
    revert unit
    cases status <;> decide
  have hw : entryWords = fun e : ResultEntry =>
      [BitVec.ofNat 16 (e.code.toNat * 256 + (statusCode e.status).toNat), BitVec.ofNat 16 e.results.length] ++ e.results :=
    funext entryWords_eq
  simp only [responsePayload, responseOf, h, hw, word]

/-- A finish served, in the words of the statements (R132). -/
theorem finishBlock_eq {b : IntakeEntry} {rest : List IntakeEntry} {s : State} (h : s.control.intake = b :: rest)
    (status : BlockStatus) (es : List ResultEntry) :
    finishBlock status es s = finishedBy b rest (responsePayload s.control.unitAddr b status es) s := by
  have hc : cacheWith
      { origin := b.origin, seq := b.seq, port := b.port, sweep := b.sweep
        response := responsePayload s.control.unitAddr b status es } s.control.cache =
      (if s.control.cache.length < 8 then s.control.cache else s.control.cache.drop 1) ++
        [{ origin := b.origin, seq := b.seq, port := b.port, sweep := b.sweep
           response := responsePayload s.control.unitAddr b status es }] := by
    by_cases h8 : s.control.cache.length < 8
    · simp [cacheWith, Config.cacheEntries, h8, Nat.not_le.mpr h8]
    · simp [cacheWith, Config.cacheEntries, h8, Nat.not_lt.mp h8]
  unfold finishBlock finishedBy
  simp only [h, ← hc]
  by_cases hw : replyWanted b.payload = true
  · simp [hw, admitResponse, pushReport_added, setReports, setControl, reportAdded, linkAfterAdmission]
  · simp [hw, setControl]

/-- The end of a block's execution, in the words of the statements: its finish now, or in a later step (log entry 26). -/
theorem endBlock_eq {b : IntakeEntry} {rest : List IntakeEntry} {s : State} (h : s.control.intake = b :: rest)
    (status : BlockStatus) (es : List ResultEntry) : endBlock status es s = blockEnded b rest status es s := by
  have hf (v : Surroundings) :=
    (finishBlock_eq (s := { s with surroundings := v }) h status es).trans (by rw [responsePayload_eq])
  unfold endBlock blockEnded
  rcases hm : s.surroundings.finishes with _ | ⟨m, more⟩
  · simp only [useFinish, setSurroundings, hm, List.headD_nil, List.head?_nil, reduceCtorEq, if_false]
    exact hf _
  · cases m
    · simp only [useFinish, setSurroundings, hm, List.headD_cons, List.head?_cons, Option.some.injEq, reduceCtorEq, if_false]
      exact hf _
    · simp [useFinish, setSurroundings, setControl, hm]

/-- While the control unit waits for a RESTART, no other directive is issued (R129, R136, R137). -/
theorem issuable_of_restart {r : RestartInProgress} {e : Envelope} {s : State} (h : s.control.restart = some r)
    (he : e ≠ restartEnvelope r.scope) : issuable e s = false := by
  simp [issuable, awaited, h, he]

/-- While owners are being asked, no other directive is issued (R129, R143, R146). -/
theorem issuable_of_inquiry {q : Inquiry} {e : Envelope} {s : State} (h : s.control.inquiry = some q)
    (he : e ≠ q.envelope) : issuable e s = false := by
  simp [issuable, awaited, h, he]

/-! ## Directives whose owners are asked in turn (R143, R146) -/

@[simp] theorem setInquiry_control (q : Option Inquiry) (s : State) :
    (setInquiry q s).control = { s.control with inquiry := q } := rfl
@[simp] theorem setInquiry_ports (q : Option Inquiry) (s : State) : (setInquiry q s).ports = s.ports := rfl
@[simp] theorem setInquiry_classifier (q : Option Inquiry) (s : State) : (setInquiry q s).classifier = s.classifier := rfl
@[simp] theorem setInquiry_store (q : Option Inquiry) (s : State) : (setInquiry q s).store = s.store := rfl
@[simp] theorem setInquiry_lanes (q : Option Inquiry) (s : State) : (setInquiry q s).lanes = s.lanes := rfl
@[simp] theorem setInquiry_time (q : Option Inquiry) (s : State) : (setInquiry q s).time = s.time := rfl
@[simp] theorem setInquiry_scheduler (q : Option Inquiry) (s : State) : (setInquiry q s).scheduler = s.scheduler := rfl
@[simp] theorem setInquiry_reports (q : Option Inquiry) (s : State) : (setInquiry q s).reports = s.reports := rfl
@[simp] theorem setInquiry_offers (q : Option Inquiry) (s : State) : (setInquiry q s).offers = s.offers := rfl
@[simp] theorem setInquiry_requests (q : Option Inquiry) (s : State) : (setInquiry q s).requests = s.requests := rfl
@[simp] theorem setInquiry_surroundings (q : Option Inquiry) (s : State) : (setInquiry q s).surroundings = s.surroundings := rfl
@[simp] theorem setInquiry_pending (q : Option Inquiry) (s : State) : (setInquiry q s).pending = s.pending := rfl

/-- All that one can do: nothing while it may not be issued, an answer at once when its form fails, else a step of its inquiry. -/
theorem inquireDirective_cases {α : Type} (d : Directive) (form : List Word → Except Status α) (owners : α → Owners)
    (ps : List Word) (s : State) :
    (¬ mayIssue d ps s ∧ inquireDirective d form owners ps s = s) ∨
      (mayIssue d ps s ∧ ∃ st, form ps = .error st ∧ inquireDirective d form owners ps s = answered d st [] s) ∨
      (mayIssue d ps s ∧ ∃ x, form ps = .ok x ∧
        inquireDirective d form owners ps s = advanceInquiry (tableEnvelope d ps) (owners x) s) := by
  by_cases h : mayIssue d ps s
  · cases hf : form ps with
    | error st => exact .inr (.inl ⟨h, st, rfl, by simp [inquireDirective, hf, issueDirective_of_mayIssue h]⟩)
    | ok x =>
      have h' : issuable { code := directiveCode d, params := ps } s = true := h
      exact .inr (.inr ⟨h, x, rfl, by simp [inquireDirective, hf, inquire, h', tableEnvelope]⟩)
  · have h' : ¬ issuable { code := directiveCode d, params := ps } s = true := h
    refine .inl ⟨h, ?_⟩
    cases hf : form ps with
    | error st => simp [inquireDirective, hf, issueDirective_of_not h]
    | ok x => simp [inquireDirective, hf, inquire, h']

/-- The owners that answer are the next ones in their order. -/
theorem ownersNow_eq_take (o : Owners) (q : Inquiry) (s : State) :
    ownersNow o q s = ((List.range o.count).drop q.asked).take (ownersNow o q s).length := by
  have h : ownersNow o q s <+: (List.range o.count).drop q.asked :=
    (List.takeWhile_prefix _).trans (List.take_prefix _ _)
  exact List.prefix_iff_eq_take.mp h

/-- With no owner waiting, as many answer as the surroundings say and are left. -/
theorem ownersNow_length {o : Owners} {s : State} (q : Inquiry) (h : ∀ k, o.waits k s = false) :
    (ownersNow o q s).length = min (s.surroundings.asks.headD o.count) (o.count - q.asked) := by
  have hall : ∀ l : List Nat, l.takeWhile (fun _ => true) = l := by
    intro l
    induction l with
    | nil => rfl
    | cons k l ih => simp [ih]
  simp [ownersNow, h, hall]

/-- Owners that only read change nothing; one of the surroundings' choices is used. -/
theorem askOwners_of_reads {o : Owners} (h : ∀ k t, o.effect k t = t) (q : Inquiry) (s : State) :
    askOwners o q s = setSurroundings { s.surroundings with asks := s.surroundings.asks.tail } s := by
  have : ∀ (ks : List Nat) (t : State), ks.foldl (fun u k => o.effect k u) t = t := by
    intro ks
    induction ks with
    | nil => intro t; rfl
    | cons k ks ih => intro t; simp [h]
  simp [askOwners, this]

/-- A step of an inquiry that leaves an owner to answer. -/
theorem advanceInquiry_of_lt {e : Envelope} {o : Owners} {s : State} (h : (inquiryNow o (inquiryOf e s) s).asked < o.count) :
    advanceInquiry e o s = setInquiry (some (inquiryNow o (inquiryOf e s) s)) (askOwners o (inquiryOf e s) s) := by
  simp [advanceInquiry, h]

/-- The step in which the last owner answers. -/
theorem advanceInquiry_of_le {e : Envelope} {o : Owners} {s : State} (h : o.count ≤ (inquiryNow o (inquiryOf e s) s).asked) :
    advanceInquiry e o s =
      let t := askOwners o (inquiryOf e s) s
      let a := readOut (roomFor t) (o.result (inquiryNow o (inquiryOf e s) s).words) (setInquiry none t)
      conclude { code := e.code, status := a.status, results := a.results } a.state := by
  simp [advanceInquiry, Nat.not_lt.mpr h]

end Sys2Proof.Machine
end

