-- ==== Sys2Proof/Laws/Lanes.lean ====
section
/-! SUPPORT. What a slot event does, once: the lane it leaves, its requests, and that it touches that lane, the store and the requests
alone (R83). -/

namespace Sys2Proof.Machine

/-- Entries that leave a lane are releases of their blocks. -/
theorem applyEffects_releasesOf (es : List Entry) (s : State) :
    applyEffects (releasesOf es) s = es.foldl (fun u e => release e.block u) s := by
  induction es generalizing s with
  | nil => rfl
  | cons e rest ih => exact ih (release e.block s)

/-- A change of state requests LANE_STATE and touches nothing else (R99). -/
theorem applyEffects_stateNotice (l : LaneId) (old new : LaneState) (s : State) :
    applyEffects (stateNotice l old new) s =
      { s with requests := s.requests ++ if old = new then [] else [.laneState l old new] } := by
  unfold stateNotice
  split <;> simp [applyEffect, request, setRequests]

/-- The command stage touches the command queue, the state and the stop mode alone (R109). -/
theorem takeCommand_lane (l : LaneId) (x : Lane) :
    (takeCommand l x).1 =
      { x with
        commands := (takeCommand l x).1.commands, state := (takeCommand l x).1.state
        stopMode := (takeCommand l x).1.stopMode } := by
  unfold takeCommand
  split
  · rfl
  · split <;> rfl

/-- The command stage with an empty command queue (R109). -/
theorem takeCommand_nil {l : LaneId} {x : Lane} (h : x.commands = []) : takeCommand l x = (x, []) := by
  simp [takeCommand, h]

/-- The command stage in a state that takes a command (R109). -/
theorem takeCommand_cons {l : LaneId} {x : Lane} {c : Command} {rest : List Command} (h : x.commands = c :: rest)
    (ha : admitsUnits x.state = true) :
    takeCommand l x =
      ({ x with commands := rest, state := commandState c, stopMode := commandStopMode x.stopMode c },
        stateNotice l x.state (commandState c)) := by
  simp [takeCommand, h, ha]

/-- What a presentation keeps of a lane: configuration, commands, preceding command, stop mode, grid, REFUSED and OVERRUN flags
and the frame in transmission. -/
def SamePast (x y : Lane) : Prop :=
  y.config = x.config ∧ y.commands = x.commands ∧ y.last = x.last ∧ y.stopMode = x.stopMode ∧ y.nextSlot = x.nextSlot ∧
    y.remainder = x.remainder ∧ y.refused = x.refused ∧ y.overrun = x.overrun ∧ y.frame = x.frame ∧
    y.counters.overruns = x.counters.overruns

theorem repeatOrFill_samePast (x : Lane) : SamePast x (repeatOrFill x).lane := by
  unfold repeatOrFill SamePast
  split <;> simp

theorem presentByTime_samePast (l : LaneId) (slot : Tick) (x : Lane) : SamePast x (presentByTime l slot x).lane := by
  unfold presentByTime
  split
  · simp [selectEntry, SamePast]
  · simp only [markUnderrun]
    split
    · exact repeatOrFill_samePast x
    · exact repeatOrFill_samePast x

/-- Every presentation keeps the lane's past. -/
theorem present_samePast (l : LaneId) (slot : Tick) (x : Lane) : SamePast x (present l slot x).lane := by
  unfold present
  cases x.state with
  | idle => exact repeatOrFill_samePast x
  | running => exact presentByTime_samePast l slot x
  | held => exact repeatOrFill_samePast _
  | stepping =>
    simp only [presentStepping]
    split
    · exact repeatOrFill_samePast x
    · simp [thenState, selectOffTime, selectEntry, SamePast]
  | seeking =>
    simp only [presentSeeking]
    split
    · simp [thenState, selectOffTime, selectEntry, SamePast]
    · exact presentByTime_samePast l slot x
  | cueing =>
    simp only [presentCueing]
    split
    · simp [thenState, selectOffTime, selectEntry, SamePast]
    · exact repeatOrFill_samePast _
  | draining =>
    simp only [presentDraining]
    split
    · simp only [park]
      split
      · exact repeatOrFill_samePast x
      · exact repeatOrFill_samePast { x with held := none }
    · exact presentByTime_samePast l slot x
  | parked => exact repeatOrFill_samePast x

/-- The lane after the frame stage, before the grid advances: an overrun, or the new frame on it (R88, R90). -/
theorem laneOf_frameStage (l : LaneId) (kind : FrameKind) (slot : Tick) (s : State) :
    laneOf (frameStage l kind slot s) l =
      match (laneOf s l).frame with
      | some _ =>
        { laneOf s l with
          counters := { (laneOf s l).counters with overruns := bump (laneOf s l).counters.overruns }
          overrun := true }
      | none => { laneOf s l with frame := some (newFrame kind slot (laneOf s l) (heldLength s (laneOf s l))) } := by
  unfold frameStage
  cases (laneOf s l).frame with
  | some f => exact laneOf_overrunSlot l s
  | none =>
    simp only [beginFrame]
    split <;> simp

/-- The requests of the frame stage (R90). -/
theorem frameStage_requests (l : LaneId) (kind : FrameKind) (slot : Tick) (s : State) :
    (frameStage l kind slot s).requests =
      s.requests ++ if (laneOf s l).frame.isSome ∧ (laneOf s l).overrun = false then [.laneOverrun l] else [] := by
  unfold frameStage
  cases (laneOf s l).frame with
  | some f =>
    simp only [overrunSlot_requests]
    cases (laneOf s l).overrun <;> simp
  | none =>
    simp only [beginFrame]
    split <;> simp

/-- The frame stage touches the lane, the store and the requests alone. -/
theorem frameStage_eq (l : LaneId) (kind : FrameKind) (slot : Tick) (s : State) :
    frameStage l kind slot s =
      { s with
        lanes := (frameStage l kind slot s).lanes, store := (frameStage l kind slot s).store
        requests := (frameStage l kind slot s).requests } ∧
      ∀ k, k ≠ l → laneOf (frameStage l kind slot s) k = laneOf s k := by
  unfold frameStage
  cases (laneOf s l).frame with
  | some f =>
    simp only [overrunSlot]
    split
    · exact ⟨rfl, fun k hk => laneOf_setLane_other hk _ _⟩
    · exact ⟨rfl, fun k hk => laneOf_setLane_other hk _ _⟩
  | none =>
    simp only [beginFrame]
    split
    · exact ⟨rfl, fun k hk => laneOf_setLane_other hk _ _⟩
    · exact ⟨rfl, fun k hk => laneOf_setLane_other hk _ _⟩

/-- The lane a slot event leaves (R83). -/
theorem laneOf_serveSlot (l : LaneId) (s : State) :
    laneOf (serveSlot l s) l =
      advanceGrid
        (match (laneOf s l).frame with
        | some _ =>
          { (commandAndPresent l (laneOf s l)).lane with
            counters :=
              { (commandAndPresent l (laneOf s l)).lane.counters with
                overruns := bump (commandAndPresent l (laneOf s l)).lane.counters.overruns }
            overrun := true }
        | none =>
          { (commandAndPresent l (laneOf s l)).lane with
            frame :=
              some
                (newFrame (commandAndPresent l (laneOf s l)).kind (laneOf s l).nextSlot
                  (commandAndPresent l (laneOf s l)).lane
                  (heldLength
                    (applyEffects (commandAndPresent l (laneOf s l)).effects
                      (setLane l (commandAndPresent l (laneOf s l)).lane s))
                    (commandAndPresent l (laneOf s l)).lane)) }) := by
  have hf : (commandAndPresent l (laneOf s l)).lane.frame = (laneOf s l).frame := by
    simp only [commandAndPresent]
    rw [(present_samePast _ _ _).2.2.2.2.2.2.2.2.1, takeCommand_lane]
  simp only [serveSlot, laneOf_setLane_same, laneOf_frameStage, laneOf_applyEffects, hf]

/-- The requests of a slot event, in stage order (R83). -/
theorem serveSlot_requests (l : LaneId) (s : State) :
    (serveSlot l s).requests =
      (applyEffects (commandAndPresent l (laneOf s l)).effects
          (setLane l (commandAndPresent l (laneOf s l)).lane s)).requests ++
        if (laneOf s l).frame.isSome ∧ (laneOf s l).overrun = false then [.laneOverrun l] else [] := by
  have hf : (commandAndPresent l (laneOf s l)).lane.frame = (laneOf s l).frame ∧
      (commandAndPresent l (laneOf s l)).lane.overrun = (laneOf s l).overrun := by
    simp only [commandAndPresent]
    rw [(present_samePast _ _ _).2.2.2.2.2.2.2.2.1, (present_samePast _ _ _).2.2.2.2.2.2.2.1, takeCommand_lane]
    exact ⟨rfl, rfl⟩
  simp only [serveSlot, setLane_requests, frameStage_requests, laneOf_applyEffects, laneOf_setLane_same, hf]

/-- A slot event touches its lane, the store and the requests alone. -/
theorem serveSlot_eq (l : LaneId) (s : State) :
    serveSlot l s =
      { s with
        lanes := (serveSlot l s).lanes, store := (serveSlot l s).store, requests := (serveSlot l s).requests } ∧
      ∀ k, k ≠ l → laneOf (serveSlot l s) k = laneOf s k := by
  simp only [serveSlot]
  refine ⟨?_, fun k hk => ?_⟩
  · rw [(frameStage_eq _ _ _ _).1, applyEffects_eq]; rfl
  · rw [laneOf_setLane_other hk, (frameStage_eq _ _ _ _).2 k hk, laneOf_applyEffects, laneOf_setLane_other hk]

end Sys2Proof.Machine
end

