-- ==== Sys2Proof/Laws/PerInstr.lean ====
section
/-! SUPPORT. The family EnvelopeRoundTrip: the envelope of a well-formed directive command spells that command and fits R4; one
lemma for each constructor of `Instr`. -/

namespace Sys2Proof

open Machine

/-- The code of a directive names it back. -/
theorem directiveOf_directiveCode (d : Directive) : directiveOf (directiveCode d) = some d := by
  cases d <;> rfl

/-- A table envelope spells its directive. -/
theorem commandOf_tableEnvelope (d : Directive) (ps : List Word) : commandOf (tableEnvelope d ps) = directiveCommand d ps := by
  simp [commandOf, tableEnvelope, directiveOf_directiveCode]

/-- What `paramsFit` says (R4). -/
theorem paramsFit_iff (ps : List Word) : paramsFit ps = true ↔ ps.length ≤ 64 :=
  decide_eq_true_iff

/-- The envelope of a well-formed command spells that command, and its parameters fit. -/
def Laws.EnvelopeRoundTrip.Statement (i : Instr) : Prop :=
  WellFormed i = true → ∀ e, envelopeOf i = some e → commandOf e = i ∧ e.params.length ≤ 64

/-- A command that no envelope carries. -/
theorem Laws.EnvelopeRoundTrip.of_none {i : Instr} (h : envelopeOf i = none) : Laws.EnvelopeRoundTrip.Statement i := by
  intro _ e he; simp [h] at he

/-- A command whose envelope is known. -/
theorem Laws.EnvelopeRoundTrip.of_some {i : Instr} {e : Envelope} (h : envelopeOf i = some e)
    (hc : WellFormed i = true → commandOf e = i ∧ e.params.length ≤ 64) : Laws.EnvelopeRoundTrip.Statement i := by
  intro hw e' he
  rw [h] at he
  cases he
  exact hc hw

/-- A command that a table envelope carries as it stands. -/
theorem Laws.EnvelopeRoundTrip.of_table {i : Instr} (d : Directive) (ps : List Word)
    (h : envelopeOf i = some (tableEnvelope d ps)) (hc : directiveCommand d ps = i) (hw : WellFormed i = paramsFit ps) :
    Laws.EnvelopeRoundTrip.Statement i :=
  Laws.EnvelopeRoundTrip.of_some h fun w => ⟨by rw [commandOf_tableEnvelope, hc], (paramsFit_iff ps).mp (hw ▸ w)⟩

theorem Laws.EnvelopeRoundTrip.hardReset (straps : BitVec 6) :
    Laws.EnvelopeRoundTrip.Statement (.hardReset straps) :=
  Laws.EnvelopeRoundTrip.of_none rfl

theorem Laws.EnvelopeRoundTrip.linkGain (port : PortId) :
    Laws.EnvelopeRoundTrip.Statement (.linkGain port) :=
  Laws.EnvelopeRoundTrip.of_none rfl

theorem Laws.EnvelopeRoundTrip.linkLoss (port : PortId) :
    Laws.EnvelopeRoundTrip.Statement (.linkLoss port) :=
  Laws.EnvelopeRoundTrip.of_none rfl

theorem Laws.EnvelopeRoundTrip.blockStart (port : PortId) :
    Laws.EnvelopeRoundTrip.Statement (.blockStart port) :=
  Laws.EnvelopeRoundTrip.of_none rfl

theorem Laws.EnvelopeRoundTrip.blockComplete (port : PortId) (words : List Word) :
    Laws.EnvelopeRoundTrip.Statement (.blockComplete port words) :=
  Laws.EnvelopeRoundTrip.of_none rfl

theorem Laws.EnvelopeRoundTrip.framingFault (port : PortId) :
    Laws.EnvelopeRoundTrip.Statement (.framingFault port) :=
  Laws.EnvelopeRoundTrip.of_none rfl

theorem Laws.EnvelopeRoundTrip.take :
    Laws.EnvelopeRoundTrip.Statement (.take) :=
  Laws.EnvelopeRoundTrip.of_none rfl

theorem Laws.EnvelopeRoundTrip.watchSweep :
    Laws.EnvelopeRoundTrip.Statement (.watchSweep) :=
  Laws.EnvelopeRoundTrip.of_none rfl

theorem Laws.EnvelopeRoundTrip.slotEvent (lane : LaneId) :
    Laws.EnvelopeRoundTrip.Statement (.slotEvent lane) :=
  Laws.EnvelopeRoundTrip.of_none rfl

theorem Laws.EnvelopeRoundTrip.frameCompletion (lane : LaneId) :
    Laws.EnvelopeRoundTrip.Statement (.frameCompletion lane) :=
  Laws.EnvelopeRoundTrip.of_none rfl

theorem Laws.EnvelopeRoundTrip.controlBlockOffer (port : PortId) (seq : Word) (payload : List Word) :
    Laws.EnvelopeRoundTrip.Statement (.controlBlockOffer port seq payload) :=
  Laws.EnvelopeRoundTrip.of_none rfl

theorem Laws.EnvelopeRoundTrip.executionStart :
    Laws.EnvelopeRoundTrip.Statement (.executionStart) :=
  Laws.EnvelopeRoundTrip.of_none rfl

theorem Laws.EnvelopeRoundTrip.unknownCode (code : BitVec 8) (params : List Word) :
    Laws.EnvelopeRoundTrip.Statement (.unknownCode code params) := by
  refine Laws.EnvelopeRoundTrip.of_some rfl fun w => ?_
  simp only [WellFormed, Bool.and_eq_true, Option.isNone_iff_eq_none, paramsFit_iff] at w
  exact ⟨by simp [commandOf, w.1], w.2⟩

theorem Laws.EnvelopeRoundTrip.echo (params : List Word) :
    Laws.EnvelopeRoundTrip.Statement (.echo params) :=
  Laws.EnvelopeRoundTrip.of_table .echo params rfl rfl rfl

theorem Laws.EnvelopeRoundTrip.unitRead (params : List Word) :
    Laws.EnvelopeRoundTrip.Statement (.unitRead params) :=
  Laws.EnvelopeRoundTrip.of_table .unitRead params rfl rfl rfl

theorem Laws.EnvelopeRoundTrip.groupSet (params : List Word) :
    Laws.EnvelopeRoundTrip.Statement (.groupSet params) :=
  Laws.EnvelopeRoundTrip.of_table .groupSet params rfl rfl rfl

theorem Laws.EnvelopeRoundTrip.noticeMask (params : List Word) :
    Laws.EnvelopeRoundTrip.Statement (.noticeMask params) :=
  Laws.EnvelopeRoundTrip.of_table .noticeMask params rfl rfl rfl

theorem Laws.EnvelopeRoundTrip.restartLanes (params : List Word) :
    Laws.EnvelopeRoundTrip.Statement (.restartLanes params) := by
  refine Laws.EnvelopeRoundTrip.of_some rfl fun w => ?_
  simp only [WellFormed, Bool.and_eq_true, decide_eq_true_eq, paramsFit_iff] at w
  exact ⟨by rw [commandOf_tableEnvelope]; exact if_neg w.2, w.1⟩

theorem Laws.EnvelopeRoundTrip.restartFull :
    Laws.EnvelopeRoundTrip.Statement (.restartFull) :=
  Laws.EnvelopeRoundTrip.of_some rfl fun _ => ⟨by rw [commandOf_tableEnvelope]; rfl, by simp [tableEnvelope]⟩

theorem Laws.EnvelopeRoundTrip.portRead (params : List Word) :
    Laws.EnvelopeRoundTrip.Statement (.portRead params) :=
  Laws.EnvelopeRoundTrip.of_table .portRead params rfl rfl rfl

theorem Laws.EnvelopeRoundTrip.portZero (params : List Word) :
    Laws.EnvelopeRoundTrip.Statement (.portZero params) :=
  Laws.EnvelopeRoundTrip.of_table .portZero params rfl rfl rfl

theorem Laws.EnvelopeRoundTrip.flowSet (params : List Word) :
    Laws.EnvelopeRoundTrip.Statement (.flowSet params) :=
  Laws.EnvelopeRoundTrip.of_table .flowSet params rfl rfl rfl

theorem Laws.EnvelopeRoundTrip.flowClear (params : List Word) :
    Laws.EnvelopeRoundTrip.Statement (.flowClear params) :=
  Laws.EnvelopeRoundTrip.of_table .flowClear params rfl rfl rfl

theorem Laws.EnvelopeRoundTrip.flowRead (params : List Word) :
    Laws.EnvelopeRoundTrip.Statement (.flowRead params) :=
  Laws.EnvelopeRoundTrip.of_table .flowRead params rfl rfl rfl

theorem Laws.EnvelopeRoundTrip.flowList (params : List Word) :
    Laws.EnvelopeRoundTrip.Statement (.flowList params) :=
  Laws.EnvelopeRoundTrip.of_table .flowList params rfl rfl rfl

theorem Laws.EnvelopeRoundTrip.flowZero (params : List Word) :
    Laws.EnvelopeRoundTrip.Statement (.flowZero params) :=
  Laws.EnvelopeRoundTrip.of_table .flowZero params rfl rfl rfl

theorem Laws.EnvelopeRoundTrip.laneSet (params : List Word) :
    Laws.EnvelopeRoundTrip.Statement (.laneSet params) :=
  Laws.EnvelopeRoundTrip.of_table .laneSet params rfl rfl rfl

theorem Laws.EnvelopeRoundTrip.laneSource (params : List Word) :
    Laws.EnvelopeRoundTrip.Statement (.laneSource params) :=
  Laws.EnvelopeRoundTrip.of_table .laneSource params rfl rfl rfl

theorem Laws.EnvelopeRoundTrip.laneRead (params : List Word) :
    Laws.EnvelopeRoundTrip.Statement (.laneRead params) :=
  Laws.EnvelopeRoundTrip.of_table .laneRead params rfl rfl rfl

theorem Laws.EnvelopeRoundTrip.lanePeek (params : List Word) :
    Laws.EnvelopeRoundTrip.Statement (.lanePeek params) :=
  Laws.EnvelopeRoundTrip.of_table .lanePeek params rfl rfl rfl

theorem Laws.EnvelopeRoundTrip.laneZero (params : List Word) :
    Laws.EnvelopeRoundTrip.Statement (.laneZero params) :=
  Laws.EnvelopeRoundTrip.of_table .laneZero params rfl rfl rfl

theorem Laws.EnvelopeRoundTrip.start (params : List Word) :
    Laws.EnvelopeRoundTrip.Statement (.start params) :=
  Laws.EnvelopeRoundTrip.of_table .start params rfl rfl rfl

theorem Laws.EnvelopeRoundTrip.halt (params : List Word) :
    Laws.EnvelopeRoundTrip.Statement (.halt params) :=
  Laws.EnvelopeRoundTrip.of_table .halt params rfl rfl rfl

theorem Laws.EnvelopeRoundTrip.run (params : List Word) :
    Laws.EnvelopeRoundTrip.Statement (.run params) :=
  Laws.EnvelopeRoundTrip.of_table .run params rfl rfl rfl

theorem Laws.EnvelopeRoundTrip.hold (params : List Word) :
    Laws.EnvelopeRoundTrip.Statement (.hold params) :=
  Laws.EnvelopeRoundTrip.of_table .hold params rfl rfl rfl

theorem Laws.EnvelopeRoundTrip.step (params : List Word) :
    Laws.EnvelopeRoundTrip.Statement (.step params) :=
  Laws.EnvelopeRoundTrip.of_table .step params rfl rfl rfl

theorem Laws.EnvelopeRoundTrip.seek (params : List Word) :
    Laws.EnvelopeRoundTrip.Statement (.seek params) :=
  Laws.EnvelopeRoundTrip.of_table .seek params rfl rfl rfl

theorem Laws.EnvelopeRoundTrip.cue (params : List Word) :
    Laws.EnvelopeRoundTrip.Statement (.cue params) :=
  Laws.EnvelopeRoundTrip.of_table .cue params rfl rfl rfl

theorem Laws.EnvelopeRoundTrip.stop (params : List Word) :
    Laws.EnvelopeRoundTrip.Statement (.stop params) :=
  Laws.EnvelopeRoundTrip.of_table .stop params rfl rfl rfl

theorem Laws.EnvelopeRoundTrip.timeSet (params : List Word) :
    Laws.EnvelopeRoundTrip.Statement (.timeSet params) :=
  Laws.EnvelopeRoundTrip.of_table .timeSet params rfl rfl rfl

theorem Laws.EnvelopeRoundTrip.timeAdjust (params : List Word) :
    Laws.EnvelopeRoundTrip.Statement (.timeAdjust params) :=
  Laws.EnvelopeRoundTrip.of_table .timeAdjust params rfl rfl rfl

theorem Laws.EnvelopeRoundTrip.timeRead (params : List Word) :
    Laws.EnvelopeRoundTrip.Statement (.timeRead params) :=
  Laws.EnvelopeRoundTrip.of_table .timeRead params rfl rfl rfl

theorem Laws.EnvelopeRoundTrip.schedAt (params : List Word) :
    Laws.EnvelopeRoundTrip.Statement (.schedAt params) :=
  Laws.EnvelopeRoundTrip.of_table .schedAt params rfl rfl rfl

theorem Laws.EnvelopeRoundTrip.sdlCancel (params : List Word) :
    Laws.EnvelopeRoundTrip.Statement (.sdlCancel params) := by
  refine Laws.EnvelopeRoundTrip.of_some rfl fun w => ?_
  simp only [WellFormed, Bool.and_eq_true, decide_eq_true_eq, paramsFit_iff] at w
  exact ⟨by rw [commandOf_tableEnvelope]; exact if_neg w.2, w.1⟩

theorem Laws.EnvelopeRoundTrip.sdlCancelAll :
    Laws.EnvelopeRoundTrip.Statement (.sdlCancelAll) :=
  Laws.EnvelopeRoundTrip.of_some rfl fun _ => ⟨by rw [commandOf_tableEnvelope]; rfl, by simp [tableEnvelope]⟩

theorem Laws.EnvelopeRoundTrip.sdlRead (params : List Word) :
    Laws.EnvelopeRoundTrip.Statement (.sdlRead params) :=
  Laws.EnvelopeRoundTrip.of_table .sdlRead params rfl rfl rfl

theorem Laws.EnvelopeRoundTrip.expiry :
    Laws.EnvelopeRoundTrip.Statement (.expiry) :=
  Laws.EnvelopeRoundTrip.of_none rfl

theorem Laws.EnvelopeRoundTrip.overdueRequest :
    Laws.EnvelopeRoundTrip.Statement (.overdueRequest) :=
  Laws.EnvelopeRoundTrip.of_none rfl

theorem Laws.EnvelopeRoundTrip.noticeRequest (notice : Notice) :
    Laws.EnvelopeRoundTrip.Statement (.noticeRequest notice) :=
  Laws.EnvelopeRoundTrip.of_none rfl

theorem Laws.EnvelopeRoundTrip.reportCompletion :
    Laws.EnvelopeRoundTrip.Statement (.reportCompletion) :=
  Laws.EnvelopeRoundTrip.of_none rfl

theorem Laws.EnvelopeRoundTrip.rptHoldChange (asserted : Bool) :
    Laws.EnvelopeRoundTrip.Statement (.rptHoldChange asserted) :=
  Laws.EnvelopeRoundTrip.of_none rfl

theorem Laws.EnvelopeRoundTrip.tbTick :
    Laws.EnvelopeRoundTrip.Statement (.tbTick) :=
  Laws.EnvelopeRoundTrip.of_none rfl

end Sys2Proof
end

