-- ==== Sys2Proof/Laws/Scheduler.lean ====
section
/-! SUPPORT. What the service of an expired directive by its owner can do, and what an expiry and a walk are made of: the statements
about EXPIRY and OVERDUE_REQUEST rest on these. -/

namespace Sys2Proof.Machine

/-- The state s with the parts an owner of a schedulable directive may change taken from t (R170). -/
def ownedFrom (s t : State) : State :=
  { s with classifier := t.classifier, store := t.store, lanes := t.lanes, time := t.time, requests := t.requests }

theorem updateLane_ownedFrom (l : LaneId) (r : Lane × List Effect) (s : State) :
    updateLane l r s = ownedFrom s (updateLane l r s) := by
  unfold updateLane
  rw [applyEffects_eq]
  rfl

theorem updateLane_requests (l : LaneId) (r : Lane × List Effect) (s : State) :
    ∃ more, (updateLane l r s).requests = s.requests ++ more :=
  applyEffects_requests r.2 (setLane l r.1 s)

/-- An owner's answer that leaves s but for the parts an owner may change, its requests behind those that wait. -/
def ownsOnly (a : Answer) (s : State) : Prop :=
  a.state = ownedFrom s a.state ∧ ∃ more, a.state.requests = s.requests ++ more

theorem ownsOnly_self (st : Status) (results : List Word) (s : State) :
    ownsOnly { status := st, results := results, state := s } s := ⟨rfl, [], by simp⟩

theorem ownsOnly_setTable (st : Status) (t : List FlowEntry) (s : State) :
    ownsOnly { status := st, results := [], state := setTable t s } s := ⟨rfl, [], by simp⟩

theorem ownsOnly_updateLane (st : Status) (l : LaneId) (r : Lane × List Effect) (s : State) :
    ownsOnly { status := st, results := [], state := updateLane l r s } s :=
  ⟨updateLane_ownedFrom l r s, updateLane_requests l r s⟩

/-- An owner behind a form stage that refuses by itself. -/
theorem ownsOnly_afterForm {α : Type} (form : Except Status α) (owner : α → Answer) (s : State)
    (h : ∀ x, ownsOnly (owner x) s) : ownsOnly (afterForm form owner s) s := by
  cases form with
  | error st => exact ownsOnly_self st [] s
  | ok x => exact h x

theorem ownsOnly_ownFlowSet (a : FlowSetArgs) (s : State) : ownsOnly (ownFlowSet a s) s := by
  unfold ownFlowSet
  split
  · exact ownsOnly_setTable _ _ s
  · split
    · exact ownsOnly_setTable _ _ s
    · exact ownsOnly_self _ _ s

theorem ownsOnly_ownFlowClear (f : Word) (s : State) : ownsOnly (ownFlowClear f s) s := by
  unfold ownFlowClear
  split
  · exact ownsOnly_setTable _ _ s
  · exact ownsOnly_self _ _ s

theorem ownsOnly_ownStart (l : LaneId) (anchor : Tick) (s : State) : ownsOnly (ownStart l anchor s) s := by
  unfold ownStart
  split
  · exact ownsOnly_self _ _ s
  · exact ownsOnly_updateLane _ l _ s

theorem ownsOnly_ownCommand (l : LaneId) (c : Command) (s : State) : ownsOnly (ownCommand l c s) s := by
  unfold ownCommand
  split
  · exact ownsOnly_self _ _ s
  · exact ⟨rfl, [], by simp⟩

theorem ownsOnly_ownTimeAdjust (delta : Tick) (s : State) : ownsOnly (ownTimeAdjust delta s) s := by
  unfold ownTimeAdjust
  split
  · exact ownsOnly_self _ _ s
  · split
    · exact ownsOnly_self _ _ s
    · refine ⟨?_, [.timeChanged s.time.tb (s.time.tb + delta) .adjust], ?_⟩
      · simp only [done, request, setRequests, mapLanes, setTime, ownedFrom]
      · simp only [done, request_requests, mapLanes_requests, setTime_requests]

/-- The service of an expired directive touches the flow table, the lanes, the store and the time base alone, and requests notices
(R170). -/
theorem ownsOnly_serveScheduled (d : Directive) (ps : List Word) (s : State) : ownsOnly (serveScheduled d ps s) s := by
  unfold serveScheduled
  split
  case h_1 => exact ownsOnly_afterForm _ _ s fun a => ownsOnly_ownFlowSet a s
  case h_2 => exact ownsOnly_afterForm _ _ s fun f => ownsOnly_ownFlowClear f s
  case h_3 => exact ownsOnly_afterForm _ _ s fun a => ownsOnly_updateLane _ a.lane _ s
  case h_4 => exact ownsOnly_afterForm _ _ s fun a => ownsOnly_ownStart a.1 a.2 s
  case h_5 => exact ownsOnly_afterForm _ _ s fun l => ownsOnly_updateLane _ l _ s
  case h_12 => exact ownsOnly_afterForm _ _ s fun v => ownsOnly_ownTimeAdjust v s
  case h_13 => exact ownsOnly_self _ _ s
  case h_11 => exact ownsOnly_afterForm _ _ s fun a => ownsOnly_ownCommand a.1 _ s
  all_goals exact ownsOnly_afterForm _ _ s fun l => ownsOnly_ownCommand l _ s

/-- The end of an expiry (R169): what its owner may change, no expiry in service, and SCHED_DONE behind the owner's notices. -/
theorem endExpiry_eq (x : ExpiryInService) (s : State) :
    ∃ more,
      endExpiry x s =
        { ownedFrom s (ownerAnswer x.entry s).state with
          scheduler := { s.scheduler with service := none }
          requests :=
            s.requests ++ more ++ [.schedDone x.entry.serial x.entry.code (ownerAnswer x.entry s).status x.late] } := by
  obtain ⟨h, more, hr⟩ :=
    ownsOnly_serveScheduled x.entry.code x.entry.params (setScheduler { s.scheduler with service := none } s)
  refine ⟨more, ?_⟩
  have hr' : (ownerAnswer x.entry s).state.requests = s.requests ++ more := hr
  have h' : (ownerAnswer x.entry s).state =
      ownedFrom (setScheduler { s.scheduler with service := none } s) (ownerAnswer x.entry s).state := h
  unfold endExpiry
  simp only [request, setRequests, hr']
  rw [h']
  rfl

/-- The head of a list leaves it and is in service (R169). -/
theorem takeHead_of_cons {s : State} {e : SdlEntry} {rest : List SdlEntry} (h : s.scheduler.list = e :: rest) (late : Bool) :
    takeHead late s =
      { s with
        scheduler := { s.scheduler with list := rest, service := some { entry := e, late := late } }
        surroundings := { s.surroundings with answers := s.surroundings.answers.tail } } := by
  simp [takeHead, h, setSurroundings, setScheduler]

/-- The due head is the head of the list (R169). -/
theorem dueHead_of_cons {s : State} {e : SdlEntry} {rest : List SdlEntry} (h : s.scheduler.list = e :: rest) :
    dueHead s = if atOrBefore e.due s.time.tb then some e else none := by
  simp [dueHead, h, Option.filter]

/-- Without an entry none is due. -/
theorem dueHead_of_nil {s : State} (h : s.scheduler.list = []) : dueHead s = none := by
  simp [dueHead, h]

/-- The list at the end of an expiry is the one it began with: no owner of a schedulable directive touches it (R170). -/
theorem endExpiry_list (x : ExpiryInService) (s : State) : (endExpiry x s).scheduler.list = s.scheduler.list := by
  obtain ⟨more, h⟩ := endExpiry_eq x s
  rw [h]

/-- One expiry takes one entry. -/
theorem endExpiry_takeHead_list {s : State} {e : SdlEntry} {rest : List SdlEntry} (h : s.scheduler.list = e :: rest)
    (x : ExpiryInService) (late : Bool) : (endExpiry x (takeHead late s)).scheduler.list = rest := by
  rw [endExpiry_list, takeHead_of_cons h]

/-- Any bound that the list's length does not exceed gives the same walk. -/
theorem overdueWalk_of_le {n m : Nat} {s : State} (hn : s.scheduler.list.length ≤ n) (hm : s.scheduler.list.length ≤ m) :
    overdueWalk n s = overdueWalk m s := by
  induction n generalizing m s with
  | zero =>
    have h : s.scheduler.list = [] := List.length_eq_zero_iff.mp (by omega)
    cases m <;> simp [overdueWalk, dueHead_of_nil h]
  | succ n ih =>
    rcases h : s.scheduler.list with _ | ⟨e, rest⟩
    · cases m <;> simp [overdueWalk, dueHead_of_nil h]
    · rw [h, List.length_cons] at hn hm
      obtain ⟨k, rfl⟩ : ∃ k, m = k + 1 := ⟨m - 1, by omega⟩
      simp only [overdueWalk]
      split <;> try rfl
      exact ih (by rw [endExpiry_takeHead_list h]; omega) (by rw [endExpiry_takeHead_list h]; omega)

/-- The walk goes on from one expired entry as it would from the state that entry leaves (R171). -/
theorem walkOn_of_due {s : State} {e : SdlEntry} {rest : List SdlEntry} (h : s.scheduler.list = e :: rest)
    (due : atOrBefore e.due s.time.tb = true) (now : nextAnswer s = .atOnce) :
    walkOn s = walkOn (endExpiry { entry := e, late := true } (takeHead true s)) := by
  unfold walkOn
  rw [endExpiry_takeHead_list h, h, List.length_cons]
  simp only [overdueWalk, dueHead_of_cons h, due, now, if_pos]

/-- A walk never lengthens the list. -/
theorem overdueWalk_list (n : Nat) (s : State) :
    (overdueWalk n s).scheduler.list.length ≤ s.scheduler.list.length := by
  induction n generalizing s with
  | zero => exact Nat.le_refl _
  | succ n ih =>
    rcases h : s.scheduler.list with _ | ⟨e, rest⟩
    · simp [overdueWalk, dueHead_of_nil h, endOverdue, setScheduler, h]
    · simp only [overdueWalk]
      split
      · simp [endOverdue, setScheduler, h]
      · simp [takeHead_of_cons h]
      · refine (ih _).trans ?_
        rw [endExpiry_takeHead_list h]
        simp

/-- The end of an expiry outside the walk never lengthens the list. -/
theorem finishExpiry_list (x : ExpiryInService) (s : State) :
    (finishExpiry x s).scheduler.list.length ≤ s.scheduler.list.length := by
  have key (t : State) (h : t.scheduler.list = s.scheduler.list) :
      (if listHeld t then walkOn t else t).scheduler.list.length ≤ s.scheduler.list.length := by
    rw [← h]
    split
    · exact overdueWalk_list _ _
    · exact Nat.le_refl _
  exact key _ (by split <;> simp [sendOverdue, setScheduler, endExpiry_list])

/-- A list that is held, or with an expiry in service, is not looked at (R165). -/
theorem expireDue_of_busy {s : State} (h : mayExpire s = false) (n : Nat) : expireDue n s = s := by
  cases n <;> simp [expireDue, h]

/-- Without a due head nothing expires (R169). -/
theorem expireDue_of_none {s : State} (h : dueHead s = none) (n : Nat) : expireDue n s = s := by
  cases n <;> simp [expireDue, h]

/-- Any bound that the list's length does not exceed gives the same run of expiries. -/
theorem expireDue_of_le {n m : Nat} {s : State} (hn : s.scheduler.list.length ≤ n) (hm : s.scheduler.list.length ≤ m) :
    expireDue n s = expireDue m s := by
  induction n generalizing m s with
  | zero =>
    have h : dueHead s = none := dueHead_of_nil (List.length_eq_zero_iff.mp (by omega))
    rw [expireDue_of_none h, expireDue_of_none h]
  | succ n ih =>
    rcases h : s.scheduler.list with _ | ⟨e, rest⟩
    · rw [expireDue_of_none (dueHead_of_nil h), expireDue_of_none (dueHead_of_nil h)]
    · rw [h, List.length_cons] at hn hm
      obtain ⟨k, rfl⟩ : ∃ k, m = k + 1 := ⟨m - 1, by omega⟩
      have shorter (x : ExpiryInService) : (finishExpiry x (takeHead false s)).scheduler.list.length ≤ rest.length := by
        have := finishExpiry_list x (takeHead false s)
        rwa [takeHead_of_cons h] at this ⊢
      simp only [expireDue]
      split
      · split <;> try rfl
        exact ih ((shorter _).trans (by omega)) ((shorter _).trans (by omega))
      · rfl

/-- A due head whose owner answers at once expires, and the scheduler looks at the list its expiry leaves (R169). -/
theorem lookAtHead_of_due {s : State} {e : SdlEntry} {rest : List SdlEntry} (h : s.scheduler.list = e :: rest)
    (due : atOrBefore e.due s.time.tb = true) (free : mayExpire s = true) (now : nextAnswer s = .atOnce) :
    lookAtHead s = lookAtHead (finishExpiry { entry := e, late := false } (takeHead false s)) := by
  have shorter : (finishExpiry { entry := e, late := false } (takeHead false s)).scheduler.list.length ≤ rest.length := by
    have := finishExpiry_list { entry := e, late := false } (takeHead false s)
    rwa [takeHead_of_cons h] at this ⊢
  unfold lookAtHead
  rw [← expireDue_of_le shorter (Nat.le_refl _), h, List.length_cons]
  simp only [expireDue, free, dueHead_of_cons h, due, now, if_pos]

end Sys2Proof.Machine
end

