-- ==== Sys2Proof/Tests/Slice0.lean ====
section
/-! SUPPORT. Tests: the well-formedness smoke test, single steps with values from the spec's worked examples (each test names the
example), and for every statement with hypotheses a theorem that shows states and operands meeting them. -/

namespace Sys2Proof.Tests

open Sys2Proof.Machine Sys2Proof.Safety

set_option Elab.async false

/-! ## Helpers -/

/-- The state a command leaves. -/
def after (c : Instr) (s : State) : State :=
  match exec c s with
  | .next t => t
  | .fault _ => s
  | .refused _ => s

/-- Reset with a lane replaced. -/
def withLane (l : LaneId) (x : Lane) : State := { State.reset with lanes := State.reset.lanes.set l x }

/-- Reset with the time base SET at a value. -/
def setAt (tb : Tick) (s : State) : State := { s with time := { tb := tb, isSet := true } }

/-- A queue entry of block 0. -/
def unit (seq : Word) (release : Tick) (marker : Bool) : Entry :=
  { block := 0, flow := 1, seq := seq, pts := release, release := release, marker := marker, disc := false, port := .a, cells := 1 }

/-- A lane in a state, with a cadence of 1,000 ticks. -/
def laneIn (state : LaneState) (slot datum : Tick) (queue : List Entry) (held : Option Entry) : Lane :=
  { resetLane with
    config := { defaultConfig with source := 1, cn := 1000 }
    state := state, nextSlot := slot, datum := datum, queue := queue, held := held, last := .start }

/-- A state with lane 0 as given, the time base at its next slot, and one stored block of 32 words. -/
def slotState (x : Lane) : State :=
  { setAt x.nextSlot (withLane 0 x) with
    store := { records := [{ ref := 0, payload := List.replicate 32 7, holders := 9 }], freeCells := 1023, freeRecords := 511, fullFlag := false } }

/-- A flow entry that is LIVE at H with a window. -/
def liveFlow (h : Word) (window : BitVec 32) : FlowEntry :=
  { flow := 0x0310, state := .live, ports := .both, lapse := 4, paths := ⟨⟨true, 0⟩, ⟨true, 0⟩⟩, high := some h, window := window, staleRun := 0, counters := zeroFlowCounters, gapFlag := false }

/-- A media block of flow 0x0310 without payload. -/
def block (seq : Word) (disc : Bool) : Media :=
  { flow := 0x0310, seq := seq, pts := 0, marker := false, disc := disc, payload := [] }

/-- A state with a flow entry and a block at the head of port A's buffer. -/
def takeState (e : FlowEntry) (m : Media) : State :=
  { State.reset with
    ports := ⟨{ resetPort with up := true, buffer := [m] }, resetPort⟩
    classifier := { resetClassifier with table := [e] } }

/-- A state with the answers of the next expired entries' owners. -/
def withAnswers (answers : List Moment) (s : State) : State := { s with surroundings := { s.surroundings with answers := answers } }

/-- A state with the finishes of the next control blocks. -/
def withFinishes (finishes : List Moment) (s : State) : State :=
  { s with surroundings := { s.surroundings with finishes := finishes } }

/-- A state with the lanes that serve a RESTART in its next steps. -/
def withRestarts (restarts : List (List LaneId)) (s : State) : State :=
  { s with surroundings := { s.surroundings with restarts := restarts } }

/-- A state with the numbers of owners that answer in the next steps of an inquiry. -/
def withAsks (asks : List Nat) (s : State) : State := { s with surroundings := { s.surroundings with asks := asks } }

/-- Reset with port B UP. -/
def upB : State := { State.reset with ports := ⟨resetPort, { resetPort with up := true }⟩ }

/-! ## Well-formedness -/

theorem test_wellFormed_params : WellFormed (.echo (List.replicate 65 0)) = false := by decide +kernel
theorem test_wellFormed_payload : WellFormed (.controlBlockOffer .a 0 (List.replicate 257 0)) = false := by decide +kernel
theorem test_wellFormed_unknownCode : WellFormed (.unknownCode 0x01 []) = false := by decide +kernel
theorem test_wellFormed_restart : WellFormed (.restartLanes [2]) = false := by decide +kernel
theorem test_wellFormed_cancel : WellFormed (.sdlCancel [0xFFFF]) = false := by decide +kernel
theorem test_wellFormed_flow : WellFormed (.noticeRequest (.flowSilent 0xFFFF)) = false := by decide +kernel
theorem test_wellFormed_gap : WellFormed (.noticeRequest (.flowGap 1 32767)) = false := by decide +kernel
theorem test_wellFormed_storeFull : WellFormed (.noticeRequest (.storeFull 1025 0)) = false := by decide +kernel
theorem test_wellFormed_recovered : WellFormed (.noticeRequest (.storeRecovered 127 64)) = false := by decide +kernel
theorem test_wellFormed_laneState : WellFormed (.noticeRequest (.laneState 0 .held .held)) = false := by decide +kernel
theorem test_wellFormed_schedDone : WellFormed (.noticeRequest (.schedDone 0 .echo .ok false)) = false := by decide +kernel
theorem test_wellFormed_serial : WellFormed (.noticeRequest (.schedDone 0xFFFF .halt .ok false)) = false := by decide +kernel
theorem test_wellFormed_flushed : WellFormed (.noticeRequest (.schedFlushed 33)) = false := by decide +kernel

/-! ## Words of commands -/

/-- 1.7: the envelope of START of lane 3 with anchor 0x00400000. -/
theorem test_decode_start :
    decodeDirective [0x3003, 0x0003, 0x0040, 0x0000, 0x0102, 0x1234, 0x5678] =
      some (.start [3, 0x40, 0], [0x0102, 0x1234, 0x5678]) := by decide

/-- 1.7: the walk of the control payload. -/
theorem test_walk_example :
    envelopesOf [0x8005, 0x0A10, 0x0002, 0x3003, 0x0003, 0x0040, 0x0000, 0x0102, 0x1234, 0x5678] =
      some [{ code := 0x30, params := [3, 0x40, 0] }, { code := 0x01, params := [0x1234, 0x5678] }] := by decide

/-- No row of the table has bits. -/
theorem test_no_table_word : decodeTableWord 16 0 = none := rfl

/-- R3: the CRC of the bytes 31 32 .. 38 by the same polynomial and start value, computed outside the model. -/
theorem test_crc : crc [0x3132, 0x3334, 0x3536, 0x3738] = 0xA12B := by decide +kernel

/-- Reset is what HARD_RESET with straps 0 makes of it. -/
theorem test_hardReset : exec (.hardReset 0) State.reset = .next State.reset := rfl

/-! ## Single steps of the worked examples -/

/-- 2.8 event 3: a third good block meets a full buffer. -/
theorem test_overflow :
    let s := { upB with ports := ⟨resetPort, { resetPort with up := true, buffer := [block 40 false, block 41 false] }⟩ }
    let t := after (.blockComplete .b (mediaWords (block 42 false))) s
    (portOf t .b).counters.mediaGood = 1 ∧ (portOf t .b).counters.overflow = 1 ∧ (portOf t .b).buffer.length = 2 ∧
      t.requests = [.portErrors .b] := by decide +kernel

/-- 2.8 event 10: 70 words with LEN 64. -/
theorem test_length_error :
    let t := after (.blockComplete .b ([0x1000, 0x0310, 43, 0, 0, 64] ++ List.replicate 64 0)) upB
    (portOf t .b).counters.completed = 1 ∧ (portOf t .b).counters.length = 1 ∧ t.requests = [.portErrors .b] := by
  decide +kernel

/-- 2.8 event 6: LINK_LOSS with a block in reception, the flag set before. -/
theorem test_link_loss :
    let x : Port := { resetPort with up := true, receiving := true, errorFlag := true }
    let t := after (.linkLoss .b) { State.reset with ports := ⟨resetPort, x⟩ }
    (portOf t .b).up = false ∧ (portOf t .b).counters.truncated = 1 ∧ t.requests = [.portDown .b] := by decide +kernel

/-- 3.7 block 4: H 101, block 104 passes over two. -/
theorem test_gap :
    let t := after .take (takeState (liveFlow 101 3) (block 104 false))
    (t.classifier.table.map fun e => (e.high, e.window, e.counters.gaps, e.gapFlag)) = [(some 104, 0x19, 2, true)] ∧
      t.requests = [.flowGap 0x0310 2] := by decide +kernel

/-- 3.7 block 10: H 105, a DISC block 9000 resyncs. -/
theorem test_disc_resync :
    let t := after .take (takeState (liveFlow 105 0x3F) (block 9000 true))
    (t.classifier.table.map fun e => (e.high, e.window, e.counters.resyncs, e.counters.gaps)) = [(some 9000, 1, 1, 0)] ∧
      t.requests = [.flowResync 0x0310 .disc] := by decide +kernel

/-- 3.7, FLOW_READ: words 1, 3, 5, 6 and 7. -/
theorem test_flow_words :
    let ws := flowWords { liveFlow 9000 1 with gapFlag := true }
    (ws[1]?, ws[3]?, ws[5]?, ws[6]?, ws[7]?) = (some 0x7C00, some 0xC000, some 9000, some 0, some 1) := by decide +kernel

/-- A path at silence count 3 with lapse limit 4 and the other path DOWN: the sweep makes the flow SILENT (R36, R37). -/
theorem test_sweep :
    let e := { liveFlow 5 1 with paths := ⟨⟨true, 3⟩, ⟨false, 0⟩⟩ }
    let t := after .watchSweep { State.reset with classifier := { resetClassifier with table := [e], sweepsDue := 1 } }
    (t.classifier.table.map fun e => (e.state, e.paths.a)) = [(.silent, ⟨false, 4⟩)] ∧ t.requests = [.flowSilent 0x0310] ∧
      t.classifier.sweepNumber = 1 := by decide +kernel

/-- 4.7, lane 2: a block of 70 words takes 3 cells of 200 and one record of 90. -/
theorem test_placement :
    let m : Media := { flow := 0x0310, seq := 6, pts := 600, marker := false, disc := false, payload := List.replicate 70 0 }
    let x := { laneIn .running 1000 500 [] none with config := { defaultConfig with source := 0x0310 } }
    let s := takeState (liveFlow 5 1) m
    let t := after .take { setAt 400 s with lanes := s.lanes.set 2 x, store := { emptyStore with freeCells := 200, freeRecords := 90 } }
    ((laneOf t 2).queue.map fun e => (e.release, e.cells)) = [(600, 3)] ∧ t.store.freeCells = 197 ∧ t.store.freeRecords = 89 ∧
      (t.store.records.map fun r => r.holders) = [1] := by decide +kernel

/-- 12.3, slot 11,000: u2 is selected and u1 skipped. -/
theorem test_slot_running :
    let x := laneIn .running 11000 10000 [unit 1 10400 false, unit 2 10800 false, unit 3 11300 false] (some (unit 0 10000 false))
    let y := laneOf (after (.slotEvent 0) (slotState x)) 0
    y.held = some (unit 2 10800 false) ∧ y.queue = [unit 3 11300 false] ∧ y.datum = 10800 ∧ y.counters.skipped = 1 ∧
      y.nextSlot = 12000 := by decide +kernel

/-- 12.3, slot 13,000: the unit repeats and the underrun is announced. -/
theorem test_slot_underrun :
    let x := laneIn .running 13000 11900 [unit 5 14200 false] (some (unit 4 11900 false))
    let t := after (.slotEvent 0) (slotState x)
    (laneOf t 0).counters.repeated = 1 ∧ (laneOf t 0).underrun = true ∧ t.requests = [.laneUnderrun 0] := by decide +kernel

/-- 12.5, slot 23,000: SEEKING finds the marker u4, u5 stays. -/
theorem test_slot_seeking :
    let x := laneIn .seeking 23000 21400 [unit 4 22200 true, unit 5 23000 false, unit 6 23800 false] (some (unit 3 21400 false))
    let t := after (.slotEvent 0) (slotState x)
    (laneOf t 0).held = some (unit 4 22200 true) ∧ (laneOf t 0).queue = [unit 5 23000 false, unit 6 23800 false] ∧
      (laneOf t 0).state = .held ∧ t.requests = [.laneState 0 .seeking .held] := by decide +kernel

/-- 7.9, slot 101,000: CUE is taken, u1 is skipped, u0 repeats without an underrun. -/
theorem test_slot_cueing :
    let x := { laneIn .running 101000 99500 [unit 1 100400 false, unit 2 101300 true] (some (unit 0 99500 false)) with
      commands := [.cue], last := .cue }
    let t := after (.slotEvent 0) (slotState x)
    (laneOf t 0).queue = [unit 2 101300 true] ∧ (laneOf t 0).counters.skipped = 1 ∧ (laneOf t 0).counters.repeated = 1 ∧
      (laneOf t 0).underrun = false ∧ t.requests = [.laneState 0 .running .cueing] := by decide +kernel

/-- 7.9, slot 105,000: the lane parks in LAST mode on u4. -/
theorem test_slot_parks :
    let x := { laneIn .draining 105000 103100 [] (some (unit 4 103100 false)) with last := .stop, stopMode := some .last }
    let t := after (.slotEvent 0) (slotState x)
    (laneOf t 0).state = .parked ∧ (laneOf t 0).held = some (unit 4 103100 false) ∧ (laneOf t 0).counters.repeated = 1 ∧
      t.requests = [.laneState 0 .draining .parked] := by decide +kernel

/-- 7.8: STEP after SEEK is answered ORDER; HOLD after SEEK is queued. -/
theorem test_succession :
    let s := withLane 10 { laneIn .running 1000 0 [] none with commands := [.seek], last := .seek }
    ((after (.step [10]) s).control.lastAnswer.map (·.status)) = some .order ∧
      (laneOf (after (.hold [10]) s) 10).commands = [.seek, .hold] := by decide +kernel

/-- 5.8: the next slot time moves by delta with TB. -/
theorem test_adjust :
    let s := setAt 5000000 (withLane 4 (laneIn .running 5010000 4980000 [] none))
    let t := after (.timeAdjust [0x0001, 0x86A0]) s
    t.time.tb = 5100000 ∧ (laneOf t 4).nextSlot = 5110000 ∧ t.requests = [.timeChanged 5000000 5100000 .adjust] := by
  decide +kernel

/-- 5.8: TB wraps backwards through 0. -/
theorem test_adjust_back :
    (after (.timeAdjust [0xFF00, 0x0000]) (setAt 5100000 State.reset)).time.tb = 4283290080 := by decide +kernel

/-- 8.10 events 2 and 3: a twin of a block in the intake, and a retry answered from the cache. -/
theorem test_twin_and_retry :
    let c : Control :=
      { resetControl 5 with
        intake := [{ origin := 0x0B00, seq := 7, port := .a, sweep := 200, payload := [0x8005, 0x0B00, 1, 0x0100] }]
        cache := [{ origin := 0x0A10, seq := 0x41, port := .a, sweep := 198, response := [5, 0x0A10, 0x41, 0] }] }
    let s := { setAt 9 State.reset with control := c, classifier := { resetClassifier with sweepNumber := 200 } }
    (after (.controlBlockOffer .b 7 [0x8005, 0x0B00, 1, 0x0100]) s).control.counters.twins = 1 ∧
      ((after (.controlBlockOffer .a 0x41 [0x8005, 0x0A10, 1, 0x0100]) s).reports.queue.map (·.payload)).getLast? =
        some [0x4005, 0x0A10, 0x41, 0] := by decide +kernel

/-- 1.7: START answered NO_TIME with CONTINUE clear stops the block; the response with TIME_UNSET. -/
theorem test_stopped_response :
    let payload : List Word := [0x8005, 0x0A10, 2, 0x3003, 3, 0x40, 0, 0x0102, 0x1234, 0x5678]
    let c : Control := { resetControl 5 with intake := [{ origin := 0x0A10, seq := 0x41, port := .a, sweep := 0, payload := payload }] }
    let t := after (.start [3, 0x40, 0]) (after .executionStart { State.reset with control := c })
    (t.reports.queue.map (·.payload)).getLast? = some [0x8105, 0x0A10, 0x0041, 0x0002, 0x300D, 0, 0x0103, 0] ∧
      t.control.intake = [] ∧ t.reports.reserved = false := by decide +kernel

/-- 9.9: a lane above 15 with a flow of 0xFFFF is BAD_LANE; code 0x25 is UNKNOWN; TIME_READ with K = 1 is BAD_PARAM. -/
theorem test_form_stage :
    ((after (.laneSource [17, 0xFFFF, 1]) State.reset).control.lastAnswer.map (·.status)) = some .badLane ∧
      ((after (.unknownCode 0x25 [0]) State.reset).control.lastAnswer.map (·.status)) = some .unknown ∧
      ((after (.timeRead [0]) State.reset).control.lastAnswer.map (·.status)) = some .badParam := by decide +kernel

/-- 10.8: the list after the ATs of serials 14, 15 and 16, and its first row in SDL_READ. -/
theorem test_sdl_order :
    let s := { setAt 2000000 State.reset with scheduler := { resetScheduler with nextSerial := 14 } }
    let t := after (.schedAt [0x0020, 0x0B20, 0x3301, 1])
      (after (.schedAt [0x001F, 0x47D0, 0x2103, 1, 0x0205, 1]) (after (.schedAt [0x0020, 0x0B20, 0x3003, 1, 0x20, 0x0F08]) s))
    (t.scheduler.list.map (·.serial)) = [15, 14, 16] ∧ t.scheduler.nextSerial = 17 ∧
      (sdlReadWords 0 32 t).take 5 = [15, 0x001F, 0x47D0, 0x2103, 1] := by decide +kernel

/-- R167's example: with 65,534 and 0 held the counter at 65,534 gives 1. -/
theorem test_serial_wrap :
    let e (n : Word) : SdlEntry := { serial := n, due := 9, code := .halt, params := [1] }
    let s := { State.reset with scheduler := { list := [e 65534, e 0], nextSerial := 65534, overdue := 0, service := none } }
    nextSerialFor s = 1 ∧ serialAfter (nextSerialFor s) = 2 := by decide +kernel

/-- 10.8: the HALT of an expired entry, and its SCHED_DONE after the owner's notices. -/
theorem test_expiry :
    let e : SdlEntry := { serial := 7, due := 100, code := .halt, params := [0] }
    let s := setAt 100 (withLane 0 (laneIn .running 1000 0 [] none))
    let t := after .expiry { s with scheduler := { resetScheduler with list := [e] } }
    t.requests = [.laneState 0 .running .idle, .schedDone 7 .halt .ok false] ∧ t.scheduler.list = [] := by decide +kernel

/-- R66, R67: a START whose owner answers later leaves the list, is not counted by the flush of a TIME_SET, and is judged against the
new TB: its anchor 160 lies behind 200, and ahead of 100. -/
theorem test_expiry_in_service :
    let e : SdlEntry := { serial := 7, due := 100, code := .start, params := [0, 0, 160] }
    let s := { setAt 100 State.reset with scheduler := { resetScheduler with list := [e, { e with serial := 8, due := 150 }] } }
    let t := after .expiry (after (.timeSet [0, 200]) (after .expiry (withAnswers [.later] s)))
    t.requests = [.schedFlushed 1, .timeChanged 100 200 .set, .schedDone 7 .start .past false] ∧ t.scheduler.service = none ∧
      (after .expiry s).requests = [.laneState 0 .idle .running, .schedDone 7 .start .ok false] := by decide +kernel

/-- R165, R170, R171: an expired TIME_ADJUST's own overdue request is served at once, and the entry it makes overdue expires late. -/
theorem test_expiry_adjust_walks :
    let e : SdlEntry := { serial := 7, due := 100, code := .timeAdjust, params := [0, 50] }
    let h : SdlEntry := { serial := 8, due := 150, code := .halt, params := [0] }
    let s := { setAt 100 State.reset with scheduler := { resetScheduler with list := [e, h] } }
    (after .expiry s).requests = [.timeChanged 100 150 .adjust, .schedDone 7 .timeAdjust .ok false, .schedDone 8 .halt .ok true] ∧
      (after .expiry s).scheduler.overdue = 0 ∧
      (after .expiry (withAnswers [.atOnce, .later] s)).scheduler.service = some { entry := h, late := true } := by
  decide +kernel

/-- 10.8: two entries due at one tick leave the list one after the other, and the second answers NO_ENTRY to no SDL_CANCEL between. -/
theorem test_expiry_chain :
    let s := setAt 2100000 (withLane 0 (laneIn .running 9000000 0 [] none))
    let e (n : Word) : SdlEntry := { serial := n, due := 2100000, code := .halt, params := [0] }
    let t := after .expiry { s with scheduler := { resetScheduler with list := [e 14, e 16] } }
    t.requests = [.laneState 0 .running .idle, .schedDone 14 .halt .ok false, .schedDone 16 .halt .ok false] ∧
      (after (.sdlCancel [16]) t).control.lastAnswer = some { code := directiveCode .sdlCancel, status := .noEntry, results := [] } := by decide +kernel

/-- R176: the notice of a block's last directive may be served before the block's response, or after it. -/
theorem test_finish_later :
    let payload : List Word := [0x8005, 1, 1, 0x3101, 0]
    let c : Control := { resetControl 5 with intake := [{ origin := 1, seq := 2, port := .a, sweep := 0, payload := payload }] }
    let s := { setAt 9 (withLane 0 (laneIn .running 1000 0 [] none)) with control := c }
    let notice : Instr := .noticeRequest (.laneState 0 .running .idle)
    let kinds (t : State) : List ReportKind := t.reports.queue.map (·.kind)
    let halted (t : State) : State := after (.halt [0]) (after .executionStart t)
    kinds (after notice (halted s)) = [.notice, .response, .notice] ∧
      kinds (after .executionStart (after notice (halted (withFinishes [.later] s)))) = [.notice, .notice, .response] := by
  decide +kernel

/-- R62: between the restarts of two lanes a block is placed on the one that has still to answer, and its entry is flushed. -/
theorem test_restart_in_steps :
    let m : Media := { flow := 0x0310, seq := 6, pts := 600, marker := false, disc := false, payload := [1, 2] }
    let x := { laneIn .running 1000 500 [] none with config := { defaultConfig with source := 0x0310 } }
    let s := takeState (liveFlow 5 1) m
    let t := withRestarts [[0]] { setAt 400 s with lanes := (s.lanes.set 0 x).set 1 x }
    let u := after .take (after (.restartLanes [1]) t)
    (u.control.restart.map fun r => r.waiting.length) = some 15 ∧ (laneOf u 0).queue = [] ∧ (laneOf u 1).queue.length = 1 ∧
      u.store.freeCells = 1023 ∧
      let v := after (.restartLanes [1]) u
      (laneOf v 0).counters.flushed = 0 ∧ (laneOf v 1).counters.flushed = 1 ∧ v.store = emptyStore ∧
        v.requests = [.unitRestarted .lanes] ∧ v.control.restart = none := by decide +kernel

/-- R143's example: a placement after the store's free figures and before the scheduler's depth is not in word 4, and the intake of the
next step is in word 8. -/
theorem test_unit_read_in_turn :
    let m : Media := { flow := 0x0310, seq := 6, pts := 600, marker := false, disc := false, payload := [1, 2] }
    let x := { laneIn .running 1000 500 [] none with config := { defaultConfig with source := 0x0310 } }
    let s := takeState (liveFlow 5 1) m
    let t := after (.unitRead []) (withAsks [5] { setAt 400 s with lanes := s.lanes.set 0 x })
    let u := after .take t
    let v := after (.unitRead []) { u with control := { u.control with intake := [{ origin := 1, seq := 7, port := .a, sweep := 0, payload := [] }] } }
    (t.control.inquiry.map (·.asked)) = some 5 ∧ t.control.lastAnswer = none ∧ u.store.freeCells = 1023 ∧
      v.control.inquiry = none ∧ (v.control.lastAnswer.map fun r => (r.results.drop 3).take 6) = some [0x8000, 1024, 512, 0, 1, 1] := by
  decide +kernel

/-- R146's example: a block of an unknown flow taken between the two asks is counted in words 17 and 18, not in the port's. -/
theorem test_port_read_in_turn :
    let s := { State.reset with ports := ⟨{ resetPort with up := true, buffer := [block 1 false] }, resetPort⟩ }
    let t := after (.portRead [0]) (after .take (after (.portRead [0]) (withAsks [1] s)))
    (t.control.lastAnswer.map fun r => ((r.results.take 1), r.results.drop 17)) = some ([0x8001], [0, 1]) := by decide +kernel

/-- R20, R146: a block of an unknown flow taken between the two zeroings of PORT_ZERO is not counted after them. -/
theorem test_port_zero_in_turn :
    let s := { State.reset with ports := ⟨{ resetPort with up := true, buffer := [block 1 false] }, resetPort⟩ }
    let t := after .take (after (.portZero [0]) (withAsks [1] s))
    t.classifier.unknown.a = 1 ∧ (after (.portZero [0]) t).classifier.unknown.a = 0 := by decide +kernel

/-- R65, R137: in a RESTART FULL of several steps a lane that has not yet answered meets the TB it was started in. -/
theorem test_restart_keeps_time :
    let s := setAt 2999999990 (withLane 1 (laneIn .running 3000000000 2999999000 [] none))
    let t := after .restartFull (withRestarts [[0]] s)
    after (.slotEvent 1) t = t ∧ t.time.tb = 2999999990 ∧ (after .restartFull t).time = resetTime := by decide +kernel

/-- R137: an offer that comes while a RESTART FULL is in progress is judged after it. -/
theorem test_offer_waits :
    let s := after .restartFull (withRestarts [[0]] State.reset)
    let offer : Instr := .controlBlockOffer .a 7 [0x8000, 1, 1, 0x0100]
    s.control.restart.isSome = true ∧ (after offer s).control.intake = [] ∧
      (after offer (after .restartFull (after offer s))).control.intake.length = 1 := by decide +kernel

/-- R109, R113: a STEP taken at a slot presents the head at that slot. -/
theorem test_slot_takes_step :
    let x := { laneIn .held 1000 500 [unit 1 5000 false] (some (unit 0 500 false)) with commands := [.step], last := .step }
    let t := after (.slotEvent 0) (slotState x)
    (laneOf t 0).held = some (unit 1 5000 false) ∧ (laneOf t 0).state = .held ∧
      t.requests = [.laneState 0 .held .stepping, .laneState 0 .stepping .held] := by decide +kernel

/-- R8, R88: the words of a FILL frame and the tick at which word 8 leaves. -/
theorem test_frame_words :
    let f : Frame := { newFrame .fillFrame 0x00020003 { resetLane with state := .running } 0 with length := 1, fillWord := 5, divisor := 2, elapsed := 16 }
    let s := withLane 3 { resetLane with frame := some f }
    laneFrameWords s 3 = [0x3010, 0, 0, 2, 3, 0, 0, 1, 5] ∧ laneOutput s 3 = some 5 := by decide +kernel

/-- 11.8 events 3 and 14: refused with 12 held, admitted with SUPPRESSED with 11 held. -/
theorem test_suppressed :
    let r (n : Nat) : Reports :=
      { State.reset.reports with queue := List.replicate n { kind := .notice, seq := 0, pts := 0, payload := [] }, suppressed := 4 }
    (after (.noticeRequest (.flowSilent 5)) { State.reset with reports := r 12 }).reports.suppressed = 5 ∧
      ((after (.noticeRequest (.flowSilent 5)) { State.reset with reports := r 11 }).reports.queue.map (·.payload)).getLast? =
        some [0x8100, 0x0101, 4, 1, 5] := by decide +kernel

/-- 4.8 events 6 and 7: a free that meets one threshold, and one that meets both. -/
theorem test_store_recovers :
    let st (cells records n : Nat) : Store :=
      { records := [{ ref := 3, payload := List.replicate n 0, holders := 1 }], freeCells := cells, freeRecords := records, fullFlag := true }
    (release 3 { State.reset with store := st 122 63 0 }).store.fullFlag = true ∧
      (release 3 { State.reset with store := st 122 64 256 }).requests = [.storeRecovered 130 65] := by decide +kernel

/-! ## Every statement's hypotheses are met

One theorem for each statement of Obligations.lean that has hypotheses, named after it, with a case for each clause. -/

/-- Port A in a state of reception. -/
def portA (up receiving : Bool) (buffer : List Media) : State :=
  { State.reset with ports := ⟨{ resetPort with up := up, receiving := receiving, buffer := buffer }, resetPort⟩ }

/-- A block in execution whose next directive is e, with `given` result words given before: the room is 248 − given. -/
def inBlock (e : Envelope) (given : Nat) (s : State) : State :=
  { s with
    control :=
      { s.control with
        intake := [{ origin := 1, seq := 2, port := .a, sweep := 0, payload := [0x8000, 1, 2] }]
        execution := some { todo := [e], entries := [{ code := 1, status := .ok, results := List.replicate given 0 }] } } }

/-- A flow entry with an identifier. -/
def flow (f : Word) : FlowEntry := { liveFlow 5 1 with flow := f }

/-- Reset with a flow table. -/
def withTable (t : List FlowEntry) : State := { State.reset with classifier := { resetClassifier with table := t } }

/-- An SDL entry. -/
def sdl (serial : Word) (due : Tick) : SdlEntry := { serial := serial, due := due, code := .halt, params := [1] }

/-- Reset with a list, the time base SET at 100. -/
def withList (list : List SdlEntry) (overdue : Nat) : State :=
  setAt 100 { State.reset with scheduler := { list := list, nextSerial := 0, overdue := overdue, service := none } }

/-- An expiry in service, the time base SET at 100, an overdue request waiting when it is the walk's. -/
def serving (code : Directive) (params : List Word) (late : Bool) : State :=
  let s := withList [sdl 3 90] late.toNat
  { s with
    scheduler := { s.scheduler with service := some { entry := { sdl 0 100 with code := code, params := params }, late := late } } }

/-- A state with a RESTART in progress that waits for these lanes, the first of them in HELD with a block. -/
def restartUnderWay (scope : RestartScope) (waiting : List LaneId) : State :=
  let s := slotState (laneIn .held 1000 0 [unit 1 5 false] none)
  { s with control := { s.control with restart := some { scope := scope, waiting := waiting } } }

/-- A state with an inquiry in progress, issued alone. -/
def inquiryUnderWay (d : Directive) (ps : List Word) (asked : Nat) (words : List Word) : State :=
  inquiring (some { envelope := tableEnvelope d ps, asked := asked, words := words }) State.reset

theorem test_meets_LinkEvents :
    (portOf (portA false false []) .a).up = false ∧ (portOf (portA true false []) .a).up = true ∧
      (portOf (portA true false []) .a).receiving = false ∧ (portOf (portA true true []) .a).receiving = true := by decide

theorem test_meets_ReceptionEvents :
    (portOf (portA false false []) .a).up = false ∧
      ((portOf (portA true false []) .a).up = true ∧ (portOf (portA true false []) .a).receiving = false) ∧
      (portOf (portA true true []) .a).up = true ∧ (portOf (portA true true []) .a).receiving = true ∧
      (Instr.blockStart .a, true) ∈ [(Instr.blockStart .a, true), (.framingFault .a, false)] := by decide

/-- Five words; LEN 257; a wrong CRC at LEN 0; a control block with a flow; a media block of flow 0xFFFF. -/
theorem test_meets_BadBlockIsCounted :
    (portOf (portA true true []) .a).up = true ∧ ¬ 6 ≤ [0x1000, 1, 2, 0, (0 : Word)].length ∧
      ¬ (lenOf [0x1000, 1, 2, 0, 0, 257] ≤ 256) ∧
      (lengthGood [0x1000, 1, 2, 0, 0, 0, 9] = true ∧ crcGood [0x1000, 1, 2, 0, 0, 0, 9] = false) ∧
      ∀ w ∈ [[0x2000, 1, 2, 0, 0, (0 : Word)], [0x1000, 0xFFFF, 2, 0, 0, 0]],
        lengthGood (w ++ [crc w]) = true ∧ crcGood (w ++ [crc w]) = true ∧ mediaGood (w ++ [crc w]) = false ∧
          controlGood (w ++ [crc w]) = false := by decide +kernel

theorem test_meets_GoodBlockKeepsEveryField :
    (portOf (portA true true [block 1 false]) .a).up = true ∧ (List.replicate 256 (0 : Word)).length ≤ 256 ∧
      (0x1FFD : Word).extractLsb' 12 4 = 1 ∧ (0x2003 : Word).extractLsb' 12 4 = 2 ∧ (0xFFFE : Word) ≠ 0xFFFF ∧
      (portOf (portA true true [block 1 false]) .a).buffer.length < 2 ∧
      2 ≤ (portOf (portA true true [block 1 false, block 2 false]) .a).buffer.length := by decide +kernel

theorem test_meets_CrcDetectsOneDamagedWord : (0x0001 : Word) ≠ 0x8001 := by decide

/-- A block of no entry, and one by a port outside the entry's set. -/
theorem test_meets_TakeDiscardsUnservedFlows :
    (State.reset.ports.a.buffer = [] ∧ State.reset.ports.b.buffer = []) ∧
      (let s := takeState (flow 9) (block 1 false)
      served s .a ∧ (portOf s .a).buffer = [block 1 false] ∧ findFlow 0x0310 s.classifier.table = none) ∧
      let e := { liveFlow 5 1 with ports := .b }
      let s := takeState e (block 1 false)
      served s .a ∧ (portOf s .a).buffer = [block 1 false] ∧ findFlow 0x0310 s.classifier.table = some e ∧
        inSet e.ports .a = false := by decide +kernel

/-- An ARMED entry; a DISC block one ahead; the eighth stale block, 32 behind. -/
theorem test_meets_TakeResyncs :
    ∀ c ∈
        [({ liveFlow 5 0 with state := .armed, high := none }, block 5 false), (liveFlow 5 1, block 6 true),
          ({ liveFlow 100 1 with staleRun := 7 }, block 68 false)],
      let s := takeState c.1 c.2
      let d := (c.2.seq - c.1.high.getD 0).toNat
      takes s .a c.2 [] c.1 ∧
        (c.1.state ≠ .live ∨
          (c.1.state = .live ∧ c.2.disc = true ∧
            ¬ (d = 0 ∨ (32768 ≤ d ∧ 65536 - d ≤ 31 ∧ c.1.window.getLsbD (65536 - d) = true))) ∨
          (c.1.state = .live ∧ c.2.disc = false ∧ 32768 ≤ d ∧ 32 ≤ 65536 - d ∧ c.1.staleRun = 7)) := by
  decide +kernel

/-- Ahead by 1 and by 32,767; recovered at 1 and at 31 behind. -/
theorem test_meets_TakeAdvancesOrRecovers :
    ∀ n ∈ [101, 32867, 99, 69],
      let q : Word := BitVec.ofNat 16 n
      let e := liveFlow 100 1
      let s := takeState e (block q false)
      let d := (q - 100).toNat
      takes s .a (block q false) [] e ∧ e.state = .live ∧ e.high = some 100 ∧
        ((1 ≤ d ∧ d ≤ 32767) ∨ (32768 ≤ d ∧ 65536 - d ≤ 31 ∧ e.window.getLsbD (65536 - d) = false)) := by
  decide +kernel

/-- A duplicate of H and one 31 behind; stale blocks 32 and 32,768 behind with a run of 6. -/
theorem test_meets_TakeDuplicateOrStale :
    ∀ n ∈ [100, 69, 68, 32868],
      let q : Word := BitVec.ofNat 16 n
      let e := { liveFlow 100 0x80000001 with staleRun := 6 }
      let s := takeState e (block q false)
      let d := (q - 100).toNat
      takes s .a (block q false) [] e ∧ e.state = .live ∧ e.high = some 100 ∧
        (d = 0 ∨ (32768 ≤ d ∧ 65536 - d ≤ 31 ∧ e.window.getLsbD (65536 - d) = true) ∨
          (32768 ≤ d ∧ 32 ≤ 65536 - d ∧ e.staleRun ≤ 6)) := by decide +kernel

/-- A block of 32 words with PTS 600 on a lane of its source, the time base at 400. -/
def placing (x : Lane) (st : Store) : State :=
  let m : Media := { flow := 0x0310, seq := 6, pts := 600, marker := false, disc := false, payload := List.replicate 32 0 }
  let s := takeState (liveFlow 5 1) m
  { setAt 400 s with lanes := s.lanes.set 2 { x with config := { x.config with source := 0x0310 } }, store := st }

/-- The block of `placing`. -/
def placed : Media :=
  { flow := 0x0310, seq := 6, pts := 600, marker := false, disc := false, payload := List.replicate 32 0 }

theorem test_meets_PlacementInsertsEntries :
    let s := placing (laneIn .running 1000 500 [] none) emptyStore
    takes s .a placed [] (liveFlow 5 1) ∧ accepts placed (liveFlow 5 1) ∧ StoreOk s ∧
      passes s.time.tb placed (laneOf s 2) ∧ 1 ≤ s.store.freeRecords ∧
      (placed.payload.length + 31) / 32 ≤ s.store.freeCells := by
  dsimp only [accepts, StoreOk, storeOk]; decide +kernel

/-- A lane that is no candidate, and LATE by 0 ticks. -/
theorem test_meets_PlacementCountsRefusals :
    (let s := placing (laneIn .running 1000 500 [] none) emptyStore
    takes s .a placed [] (liveFlow 5 1) ∧ accepts placed (liveFlow 5 1) ∧ ¬ candidate placed (laneOf s 0)) ∧
      let x := laneOf (placing (laneIn .held 1000 600 [] none) emptyStore) 2
      candidate placed x ∧ refusedLate placed x := by
  dsimp only [accepts]; decide +kernel

/-- EARLY by one tick more than the horizon and at the horizon, a queue of 64, a full quota, a passing lane without room in the
store. -/
theorem test_meets_PlacementCountsRefusals_later :
    (let x := laneOf (placing (laneIn .running 1000 500 [] none) emptyStore) 2
    (candidate placed x ∧ refusedEarly (600 - 1073741825) placed x) ∧ ¬ refusedEarly (600 - 1073741824) placed x) ∧
      (let x := laneOf (placing (laneIn .running 1000 500 (List.replicate 64 (unit 1 501 false)) none) emptyStore) 2
      candidate placed x ∧ refusedQueueFull 400 placed x) ∧
      (let x := laneOf (placing (laneIn .running 1000 500 [{ unit 1 501 false with cells := 64 }] none) emptyStore) 2
      candidate placed x ∧ refusedQuota 400 placed x) ∧
      (let x := laneOf (placing (laneIn .running 1000 500 [] none) emptyStore) 2
      passes 400 placed x ∧ ¬ 1 ≤ { emptyStore with freeCells := 0 }.freeCells) := by decide +kernel

theorem test_meets_WatchSweepLapsesPaths : 0 < ({ resetClassifier with sweepsDue := 1 } : Classifier).sweepsDue := by decide

theorem test_meets_SlotKeepsGridAndCounts :
    let s := slotState (laneIn .running 1000 500 [] none)
    slotIsDue s 0 ∧ 1 ≤ (laneOf s 0).config.cd.toNat ∧
      ∀ e ∈ (laneOf s 0).queue ++ (laneOf s 0).held.toList, e.block ≠ 0 := by unfold slotIsDue; decide +kernel

theorem test_meets_SlotTakesOneCommand :
    (let s := slotState (laneIn .running 1000 500 [] none)
    slotIsDue s 0 ∧ (laneOf s 0).state ∈ [LaneState.running, .held, .stepping, .seeking, .cueing] ∧
      (laneOf s 0).commands = []) ∧
      ∀ c ∈ [Command.run, .hold, .step, .seek, .cue, .stop .fill, .stop .last],
        let s := slotState { laneIn .cueing 1000 500 [] none with commands := [c] }
        slotIsDue s 0 ∧ (laneOf s 0).commands = [c] := by unfold slotIsDue; decide +kernel

/-- The last entry of the prefix released exactly at the slot time and the next one a tick later, in the lane's state and in the one
STOP brings; and an empty prefix. -/
theorem test_meets_SlotPresentsByTime :
    (∀ c ∈ [(LaneState.running, []), (.seeking, []), (.draining, []), (.held, [Command.stop .fill])],
      let ahead := [unit 1 999 false, unit 2 1000 false]
      let behind := [unit 3 1001 true]
      let s := slotState { laneIn c.1 1000 500 (ahead ++ behind) none with commands := c.2 }
      let x := commanded (laneOf s 0)
      slotIsDue s 0 ∧ x.commands = [] ∧ x.state ∈ [LaneState.running, .seeking, .draining] ∧
        (∀ e ∈ ahead, atOrBefore e.release 1000 = true ∧ e.marker = false) ∧
        (∀ e ∈ behind.head?.toList, ¬ atOrBefore e.release 1000 = true) ∧ x.queue = ahead ++ behind) ∧
      let s := slotState (laneIn .running 1000 500 [unit 3 1001 true] (some (unit 0 500 false)))
      slotIsDue s 0 ∧ (∀ e ∈ [unit 3 1001 true].head?.toList, ¬ atOrBefore e.release 1000 = true) := by
  unfold slotIsDue; decide +kernel

/-- In the lane's state, and in the one HOLD and STEP bring. -/
theorem test_meets_SlotInHeldAndStepping :
    (∀ c ∈ [(LaneState.held, []), (.running, [Command.hold])],
      let s := slotState { laneIn c.1 1000 500 ([unit 1 999 false, unit 2 1000 false] ++ [unit 3 1001 false]) none with commands := c.2 }
      let x := commanded (laneOf s 0)
      slotIsDue s 0 ∧ x.state = .held ∧
        (∀ e ∈ [unit 1 999 false, unit 2 1000 false], atOrBefore e.release x.nextSlot = true) ∧
        ∀ e ∈ [unit 3 1001 false].head?.toList, ¬ atOrBefore e.release x.nextSlot = true) ∧
      ∀ c ∈ [(LaneState.stepping, []), (.held, [Command.step])],
        ∀ queue ∈ [[], [unit 1 5000 false, unit 2 5000 false]],
          let s := slotState { laneIn c.1 1000 500 queue none with commands := c.2 }
          let x := commanded (laneOf s 0)
          slotIsDue s 0 ∧ x.state = .stepping ∧ x.queue = queue := by
  unfold slotIsDue; decide +kernel

/-- In the lane's state, and in the one SEEK and CUE bring. -/
theorem test_meets_SlotInSeekingAndCueing :
    ∀ c ∈ [(LaneState.seeking, [], LaneState.seeking), (.cueing, [], .cueing), (.running, [Command.seek], .seeking),
        (.held, [.cue], .cueing)],
      (let s := slotState { laneIn c.1 1000 500 ([unit 1 999 false] ++ [unit 2 1000 true] ++ [unit 3 1000 false]) none with commands := c.2.1 }
      let x := commanded (laneOf s 0)
      slotIsDue s 0 ∧ x.state = c.2.2 ∧ x.queue = [unit 1 999 false] ++ [unit 2 1000 true] ++ [unit 3 1000 false] ∧
        (∀ z ∈ [unit 1 999 false], atOrBefore z.release x.nextSlot = true ∧ z.marker = false) ∧
        atOrBefore (1000 : Tick) x.nextSlot = true) ∧
        let s := slotState { laneIn c.1 1000 500 ([unit 1 999 false] ++ [unit 2 1001 true]) none with commands := c.2.1 }
        let x := commanded (laneOf s 0)
        slotIsDue s 0 ∧ x.state = c.2.2 ∧
          ∀ z ∈ [unit 2 1001 true].head?.toList, ¬ atOrBefore z.release x.nextSlot = true := by
  unfold slotIsDue; decide +kernel

/-- A lane that drains, and one that takes STOP with an empty queue. -/
theorem test_meets_SlotInDrainingAndParked :
    (∀ mode ∈ [StopMode.fill, .last],
      ∀ x ∈ [{ laneIn .draining 1000 500 [] none with stopMode := some mode },
          { laneIn .running 1000 500 [] none with commands := [.stop mode] }],
        let s := slotState x
        let y := commanded (laneOf s 0)
        slotIsDue s 0 ∧ y.state = .draining ∧ y.queue = [] ∧ y.stopMode = some mode) ∧
      let s := slotState (laneIn .parked 1000 500 [] none)
      slotIsDue s 0 ∧ (commanded (laneOf s 0)).state = .parked := by unfold slotIsDue; decide +kernel

/-- A frame of 8 words at W = 2 at its first tick, before its last and complete after 16: FILL, and a stored block with a holder. -/
theorem test_meets_FrameCompletionReleasesBlock :
    (laneOf State.reset 0).frame = none ∧
    ∀ block ∈ [none, some 0],
      ∀ elapsed ∈ [0, 15, 16],
      let f : Frame := { newFrame .fillFrame 0 resetLane 0 with block := block, divisor := 2, elapsed := elapsed }
      let s := slotState { resetLane with frame := some f }
      (laneOf s 0).frame = some f ∧
        (elapsed < (8 + f.length) * f.divisor.toNat ∨ (8 + f.length) * f.divisor.toNat ≤ f.elapsed) ∧
        ∀ ref ∈ block.toList, ∃ r ∈ s.store.records, r.ref = ref ∧ (2 ≤ r.holders ∨ r.holders ≤ 1) := by decide +kernel

/-- The room is 248 words less those given. -/
theorem test_meets_EchoAnswers :
    let s := inBlock (tableEnvelope .echo [1, 2]) 246 State.reset
    let s' := inBlock (tableEnvelope .echo [1, 2, 3]) 246 State.reset
    (mayIssue .echo [1, 2] s ∧ [1, 2].length ≤ roomFor s) ∧ (mayIssue .echo [1, 2, 3] s' ∧ roomFor s' < [1, 2, 3].length) ∧
      envelopesOf [0, 0, 1, 0x0100] = some [{ code := 1, params := [] }] := by unfold mayIssue; decide +kernel

/-- With all words and with one too few of room; with an expiry in service; a step that is not the last; one that goes on and ends;
another directive meanwhile. -/
theorem test_meets_DeviceReads :
    (∀ d ∈ [(Directive.unitRead, 25), (.timeRead, 3)],
      let s := inBlock (tableEnvelope d.1 []) (248 - d.2) State.reset
      let s' := inBlock (tableEnvelope d.1 []) (249 - d.2) State.reset
      mayIssue d.1 [] s ∧ d.2 ≤ roomFor s ∧ mayIssue d.1 [] s' ∧ roomFor s' < d.2 ∧ answersNow 16 16 s = 16) ∧
      (let s := serving .halt [1] false
      s.scheduler.service ≠ none ∧ mayIssue .unitRead [] s ∧ askedSoFar s + answersNow 16 5 s < 16) ∧
      (let s := inquiryUnderWay .unitRead [] 5 (List.replicate 8 0)
      mayIssue .unitRead [] s ∧ 16 ≤ askedSoFar s + answersNow 16 16 s ∧
        askedSoFar (withAsks [2] s) + answersNow 16 16 (withAsks [2] s) = 7 ∧
        s.control.inquiry = some { envelope := tableEnvelope .unitRead [], asked := 5, words := List.replicate 8 0 } ∧
        envelopeOf (.echo []) = some (tableEnvelope .echo []) ∧ tableEnvelope .echo [] ≠ tableEnvelope .unitRead [] ∧
        List.replicate 27 (0 : Word) = [0, 0, 0, 0, 0, 0] ++ List.replicate 21 0) ∧
      InquiryOk (inquiryUnderWay .unitRead [] 5 (List.replicate 8 0)) := by
  refine ⟨?_, ?_, ?_, ?_⟩ <;> first | (unfold mayIssue; decide +kernel) | (unfold InquiryOk; decide +kernel)

theorem test_meets_DeviceSettings :
    (∀ n ∈ [0, 63, 64, 254, 255], mayIssue .groupSet [BitVec.ofNat 16 n] State.reset) ∧
      (let s := inBlock (tableEnvelope .noticeMask [0x0105]) 247 State.reset
      mayIssue .noticeMask [0x0105] s ∧ 1 ≤ roomFor s) ∧
      (let s := inBlock (tableEnvelope .noticeMask [0x0105]) 248 State.reset
      mayIssue .noticeMask [0x0105] s ∧ roomFor s = 0) ∧ mayIssue .noticeMask [] State.reset := by
  unfold mayIssue; decide +kernel

/-- In one step, in two, with no room, and a port of 2. -/
theorem test_meets_PortDirectives :
    (∀ ws ∈ [[(0 : Word)], [1], [2]],
      mayIssue .portRead ws (inBlock (tableEnvelope .portRead ws) 229 State.reset) ∧ mayIssue .portZero ws State.reset ∧
        givenSoFar State.reset = []) ∧
      19 ≤ roomFor (inBlock (tableEnvelope .portRead [0]) 229 State.reset) ∧
      roomFor (inBlock (tableEnvelope .portRead [0]) 230 State.reset) < 19 ∧
      (askedSoFar State.reset = 0 ∧ answersNow 2 2 State.reset = 2 ∧ answersNow 2 2 (withAsks [1] State.reset) = 1 ∧
        answersNow 2 2 (withAsks [0] State.reset) = 0) ∧
      (let s := inquiryUnderWay .portRead [1] 1 (List.replicate 17 0)
      mayIssue .portRead [1] s ∧ askedSoFar s + answersNow 2 2 s = 2) ∧
      (let s := inquiryUnderWay .portZero [1] 1 []
      mayIssue .portZero [1] s ∧ givenSoFar s = [] ∧ askedSoFar s = 1 ∧ answersNow 2 2 s = 1) ∧
      InquiryOk (inquiryUnderWay .portRead [1] 1 (List.replicate 17 0)) := by
  refine ⟨?_, ?_, ?_, ?_, ?_, ?_, ?_⟩ <;> first | (unfold mayIssue; decide +kernel) | (unfold InquiryOk; decide +kernel) |
    decide +kernel

theorem test_meets_FlowReads :
    (let s := inBlock (tableEnvelope .flowRead [9]) 224 (withTable [flow 9])
    let s' := inBlock (tableEnvelope .flowRead [9]) 225 (withTable [flow 9])
    mayIssue .flowRead [9] s ∧ findFlow 9 s.classifier.table = some (flow 9) ∧ 24 ≤ roomFor s ∧
      mayIssue .flowRead [9] s' ∧ roomFor s' < 24) ∧
      (mayIssue .flowRead [8] (withTable [flow 9]) ∧ findFlow 8 [flow 9] = none) ∧
      mayIssue .flowList [0, 1] (withTable [flow 9]) ∧ mayIssue .flowList [9, 64] (withTable [flow 9]) := by
  unfold mayIssue; decide +kernel

/-- Tables of 1, 63 and 64 entries. -/
theorem test_meets_FlowSetCreatesOrChanges :
    let full := (List.range 64).map fun n => flow (BitVec.ofNat 16 (n + 100))
    mayIssue .flowSet [9, 3, 255] (withTable [flow 9]) ∧ findFlow 9 [flow 9] = some (flow 9) ∧
      (PortSet.both, (3 : Word)) ∈ [(PortSet.a, (1 : Word)), (.b, 2), (.both, 3)] ∧ (255 : Word).toNat ≤ 255 ∧
      (findFlow 9 full.tail = none ∧ full.tail.length < 64) ∧ findFlow 9 full = none ∧ 64 ≤ full.length := by
  unfold mayIssue; decide +kernel

theorem test_meets_FlowClearAndZero :
    ∀ d ∈ [Directive.flowClear, .flowZero],
      mayIssue d [9] (withTable [flow 9]) ∧ findFlow 9 [flow 9] = some (flow 9) ∧ mayIssue d [8] (withTable [flow 9]) ∧
        findFlow 8 [flow 9] = none := by unfold mayIssue; decide +kernel

/-- LANE_SET at the edges of its ranges. -/
theorem test_meets_LaneSettings :
    let ps : List Word := [15, 0, 0, 64, 1, 0x00FF, 0xFFFF, 0xE000, 0x0000, 1024, 1023, 0, 256]
    mayIssue .laneSet ps State.reset ∧ (15 : Word).toNat = (15 : LaneId).val ∧
      configValid
          { source := 0, cn := 64, cd := 1, delay := 0x00FFFFFF, offset := 0xE0000000, quota := 1024, divisor := 1023
            fillWord := 0, fillLength := 256 } = true ∧
      (laneOf State.reset 15).state = .idle ∧ (laneOf (withLane 15 (laneIn .running 1 0 [] none)) 15).state ≠ .idle ∧
      mayIssue .laneSource [15, 0xFFFE, 0] State.reset ∧ mayIssue .laneSource [15, 0xFFFE, 1] State.reset ∧
      mayIssue .laneZero [15] State.reset := by unfold mayIssue; decide +kernel

theorem test_meets_LaneReads :
    (let s := inBlock (tableEnvelope .laneRead [0]) 199 State.reset
    let s' := inBlock (tableEnvelope .laneRead [0]) 200 State.reset
    mayIssue .laneRead [0] s ∧ 49 ≤ roomFor s ∧ mayIssue .laneRead [0] s' ∧ roomFor s' < 49) ∧
      (let s := inBlock (tableEnvelope .lanePeek [0, 0, 64]) 243 (slotState (laneIn .held 1000 0 [unit 1 5 false] none))
      mayIssue .lanePeek [0, 0, 64] s ∧ roomFor s < 6 * (laneOf s 0).queue.length) ∧
      mayIssue .lanePeek [0, 63, 1] State.reset := by unfold mayIssue; decide +kernel

/-- Anchors at TB, one tick ahead, 2^30 ahead, one more, and 2^31 ahead. -/
theorem test_meets_StartJudged :
    mayIssue .start [] State.reset ∧ mayIssue .start [16, 0, 0] State.reset ∧ mayIssue .start [0, 0, 0] State.reset ∧
      State.reset.time.isSet = false ∧ (laneOf State.reset 0).state = .idle ∧
      distance (0 : Tick) 0 = 0 ∧ distance 0 ((0x4000 : Word) ++ (0 : Word) : Tick) = 2 ^ 30 ∧
      2 ^ 30 < distance 0 ((0x4000 : Word) ++ (1 : Word) : Tick) ∧ 2 ^ 31 ≤ distance 0 ((0x8000 : Word) ++ (0 : Word) : Tick) ∧
      (let s := setAt 0 (withLane 0 (laneIn .running 9 0 [] none))
      mayIssue .start [0, 0, 1] s ∧ (laneOf s 0).state = .running) ∧
      let s := setAt 0 (withLane 0 (laneIn .parked 9 0 [] (some (unit 1 0 false))))
      mayIssue .start [0, 0, 1] s ∧ (laneOf s 0).state = .parked ∧ s.time.isSet = true := by unfold mayIssue; decide +kernel

theorem test_meets_HaltEmptiesLane :
    (mayIssue .halt [0] State.reset ∧ (laneOf State.reset 0).state = .idle) ∧
      let s := slotState (laneIn .held 1000 0 [unit 1 5 false] none)
      mayIssue .halt [0] s ∧ (laneOf s 0).state ≠ .idle := by unfold mayIssue; decide +kernel

/-- A lane that is not active; HOLD after HOLD; a full command queue; RUN after HOLD. -/
theorem test_meets_QueuedCommandsFollowSuccession :
    (mayIssue .hold [0] State.reset ∧ (laneOf State.reset 0).state = .idle) ∧
      (let s := withLane 0 { laneIn .held 9 0 [] none with commands := [.run, .hold, .run, .hold], last := .hold }
      mayIssue .hold [0] s ∧ LastCommand.hold ∉ successors (laneOf s 0).last ∧
        LastCommand.run ∈ successors (laneOf s 0).last ∧ 4 ≤ (laneOf s 0).commands.length) ∧
      (let s := withLane 0 { laneIn .held 9 0 [] none with commands := [.hold, .run, .hold], last := .hold }
      mayIssue .run [0] s ∧ LastCommand.run ∈ successors (laneOf s 0).last ∧ (laneOf s 0).commands.length < 4) ∧
      laneShape { laneIn .draining 9 0 [] none with last := .stop, stopMode := some .fill } := by
  unfold mayIssue laneShape commandsOk; decide +kernel

theorem test_meets_TimeSetFlushesList :
    mayIssue .timeSet [0, 9] State.reset ∧ (∀ l, (laneOf State.reset l).state = .idle) ∧
      let s := withLane 15 (laneIn .parked 9 0 [] none)
      mayIssue .timeSet [0, 9] s ∧ (laneOf s 15).state ≠ .idle := by unfold mayIssue; decide +kernel

/-- The deltas at both ends of the range, UNSET and SET, and the refusal of 5.8: 2,146,000,000 ahead and −1,500,000, with a due head
ahead of it, and with an expiry in service. -/
theorem test_meets_TimeAdjustMovesGrids :
    (((0xFF00 : Word) ++ (0x0000 : Word) : Tick)).toInt = -16777216 ∧ (((0x00FF : Word) ++ (0xFFFF : Word) : Tick)).toInt = 16777215 ∧
      mayIssue .timeAdjust [0xFF00, 0] State.reset ∧ State.reset.time.isSet = false ∧
      mayIssue .timeAdjust [0x00FF, 0xFFFF] (withList [] 0) ∧ (withList [] 0).time.isSet = true ∧
      ∀ s ∈ [withList [sdl 1 90, sdl 0 2146000100] 0,
          { withList [sdl 0 2146000100] 0 with scheduler := { (serving .halt [1] false).scheduler with list := [sdl 1 2146000100] } }],
        let delta : Tick := -1500000
        mayIssue .timeAdjust [0xFFE9, 0x1CA0] s ∧ (((0xFFE9 : Word) ++ (0x1CA0 : Word) : Tick)) = delta ∧ s.time.isSet = true ∧
          delta.toInt < 0 ∧
          ∃ e ∈ s.scheduler.list, ¬ atOrBefore e.due s.time.tb = true ∧ 2 ^ 31 ≤ distance (s.time.tb + delta) e.due := by
  unfold mayIssue; decide +kernel

/-- A held list and an expiry in service; due times at TB and past the horizon, a directive that cannot be scheduled, a wrong K′, a
wrong count for the code, a lane above 15, a port set of 0, a full list, no room. -/
theorem test_meets_AtRefused :
    ((withList [] 1).scheduler.overdue ≠ 0 ∧ (serving .halt [1] false).scheduler.service ≠ none) ∧
      (State.reset.scheduler.overdue = 0 ∧ State.reset.scheduler.service = none ∧ State.reset.time.isSet = false ∧
        mayIssue .schedAt [0, 9, 0x3101, 1] State.reset) ∧
      (let s := withList [] 0
      s.time.isSet = true ∧ distance s.time.tb 100 = 0 ∧ distance s.time.tb (100 + 1073741824) ≤ 2 ^ 30 ∧
        2 ^ 30 < distance s.time.tb (100 + 1073741825) ∧
        ∀ ps ∈ [[0, 200, 0x0100], [0, 200, 0x3101], [0, 200, 0x3102, 1, 1], [0, 200, 0x3101, 16], [0, 200, 0x3101, (1 : Word)]],
          mayIssue .schedAt ps s) ∧
      (∀ form ∈ schedulableForms, directiveCode form.1 ≠ 0x01) ∧ (.halt, 1, true) ∈ schedulableForms ∧
      (paramsInRange .flowSet [9, 0, 0] = false ∧ paramsInRange .flowSet [9, 3, 255] = true ∧
        paramsInRange .flowSet [9, 4, 0] = false) ∧
      32 ≤ (List.replicate 32 (sdl 0 200)).length ∧
      (let s := inBlock (tableEnvelope .schedAt [0, 200, 0x3101, 1]) 248 (withList [] 0)
      mayIssue .schedAt [0, 200, 0x3101, 1] s ∧ roomFor s = 0) := by unfold mayIssue; decide +kernel

theorem test_meets_AtAdmitted :
    let s := withList [sdl 0 150, sdl 1 300] 0
    s.scheduler.overdue = 0 ∧ s.scheduler.service = none ∧ SdlOk s ∧
      (∀ e ∈ s.scheduler.list, strictlyAfter e.due s.time.tb = true) ∧
      mayIssue .schedAt [0, 200, 0x3101, 1] s ∧ s.time.isSet = true ∧
      1 ≤ distance s.time.tb ((0 : Word) ++ (200 : Word) : Tick) ∧ distance s.time.tb ((0 : Word) ++ (200 : Word) : Tick) ≤ 2 ^ 30 ∧
      directiveCode .halt = (0x3101 : Word).extractLsb' 8 8 ∧ ((0x3101 : Word).extractLsb' 0 8).toNat = [1].length ∧
      admissible .halt [1] ∧ s.scheduler.list.length < 32 ∧ 1 ≤ roomFor s := by
  unfold mayIssue SdlOk; decide +kernel

theorem test_meets_SdlCancelAndRead :
    ((withList [] 1).scheduler.overdue ≠ 0 ∧ (serving .halt [1] false).scheduler.service ≠ none) ∧
      (let s := withList [sdl 7 150] 0
    s.scheduler.service = none ∧ mayIssue .sdlCancel [] s ∧ mayIssue .sdlCancel [7] s ∧ (∃ e ∈ s.scheduler.list, e.serial = 7) ∧ mayIssue .sdlCancel [8] s ∧
      (∀ e ∈ s.scheduler.list, e.serial ≠ 8) ∧ s.scheduler.overdue = 0 ∧ 1 ≤ roomFor s ∧ mayIssue .sdlCancel [0xFFFF] s ∧
      mayIssue .sdlRead [31, 32] s ∧ mayIssue .sdlRead [32, 1] s ∧ mayIssue .sdlRead [0, 1] s) ∧
      (∀ ws ∈ [[(7 : Word)], [0xFFFF]],
        let s := inBlock (tableEnvelope .sdlCancel ws) 248 (withList [sdl 7 150] 0)
        mayIssue .sdlCancel ws s ∧ roomFor s = 0) ∧
      let s := inBlock (tableEnvelope .sdlRead [0, 1]) 244 (withList [sdl 7 150] 0)
      mayIssue .sdlRead [0, 1] s ∧ roomFor s < 5 := by unfold mayIssue; decide +kernel

/-- A step that is not the last, begun and in progress; a last step; another directive meanwhile; a lane run again that holds a
block. -/
theorem test_meets_RestartLanesEmptiesLanes :
    (mayIssue .restart [1] State.reset ∧ mayIssue .restart [3] State.reset ∧ leftWaiting State.reset = [] ∧
      leftWaiting (withRestarts [[3, 4]] State.reset) ≠ []) ∧
      (RestartOk State.reset ∧ RestartOk (restartUnderWay .lanes [0, 5]) ∧ RestartOk (restartUnderWay .lanes [5])) ∧
      (let s := restartUnderWay .lanes [0, 5]
      mayIssue .restart [1] s ∧ leftWaiting s = [] ∧ answering s = [0, 5] ∧ leftWaiting (withRestarts [[5]] s) = [0] ∧
        envelopeOf (.echo []) = some { code := 1, params := [] } ∧
        s.control.restart = some { scope := .lanes, waiting := [0, 5] }) ∧
      let s := restartUnderWay .lanes [5]
      mayIssue .restart [1] s ∧ leftWaiting s = [] ∧ blocksHeld (laneOf s 0) ≠ [] := by
  refine ⟨?_, ⟨?_, ?_, ?_⟩, ?_, ?_⟩ <;> first | (unfold mayIssue; decide +kernel) | (unfold RestartOk; decide +kernel)

/-- A block that carries it, with no expiry in service and with one; a RESTART FULL in progress, at its last step and before. -/
theorem test_meets_RestartFullResetsPart :
    (∀ s0 ∈ [State.reset, serving .halt [1] false],
      let s := inBlock (tableEnvelope .restart [2]) 3 s0
      mayIssue .restart [2] s ∧ s.control.execution ≠ none ∧ s.control.intake ≠ [] ∧ s.control.restart = none ∧
        s.scheduler.service = s0.scheduler.service) ∧
      (let s := restartUnderWay .full [0, 5]
      mayIssue .restart [2] s ∧ leftWaiting s = [] ∧ leftWaiting (withRestarts [[5]] s) ≠ []) ∧
      RestartOk (restartUnderWay .full [0, 5]) ∧ RestartOk (inBlock (tableEnvelope .restart [2]) 3 State.reset) := by
  refine ⟨?_, ?_, ?_, ?_⟩ <;> first | (unfold mayIssue; decide +kernel) | (unfold RestartOk; decide +kernel)

/-- A code outside the table, wrong counts, a lane of 16, a STOP mode of 2, a maximum count of 0, a delta one past the range. -/
theorem test_meets_FormStageRefuses :
    ((∀ d : Directive, directiveCode d ≠ 0x25) ∧ issuable { code := 0x25, params := [] } State.reset = true) ∧
      mayIssue .laneSet (List.replicate 12 0) State.reset ∧ mayIssue .schedAt [0, 0] State.reset ∧
      mayIssue .stop [16, 0] State.reset ∧ mayIssue .stop [15, 2] State.reset ∧ paramsInRange .stop [15, 2] = false ∧
      mayIssue .flowList [9, 0] State.reset ∧ paramsInRange .flowList [9, 0] = false ∧
      paramsInRange .timeAdjust [0x0100, 0] = false ∧ paramsInRange .timeAdjust [0x00FF, 0xFFFF] = true := by
  unfold mayIssue
  refine ⟨⟨fun d => ?_, rfl⟩, rfl, rfl, rfl, rfl, rfl, rfl, rfl, rfl, rfl⟩
  cases d <;> decide

/-- An address of another unit, a payload of two words, a new block with room in the intake and without, a RESTART FULL in progress. -/
theorem test_meets_OffersNotMineAndNew :
    let o : Offer := { port := .a, seq := 7, payload := [0x8000, 1, 1] }
    let b : IntakeEntry := { origin := 9, seq := 1, port := .a, sweep := 0, payload := [] }
    let s := { State.reset with offers := [o] }
    let full := { s with control := { s.control with intake := List.replicate 4 b } }
    offerTaken o s { s with offers := [] } ∧ offerTaken o State.reset State.reset ∧ addressed o s ∧
      ¬ addressed { o with payload := [0x8001, 1, 1] } s ∧ ¬ addressed { o with payload := [0x80FF, 1] } s ∧
      s.control.intake.length < 4 ∧ s.control.cache = [] ∧ 4 ≤ full.control.intake.length ∧
      inFullRestart (restartUnderWay .full [0]) ∧
      ∀ e ∈ full.control.intake, (e.origin, e.seq) ≠ (1, 7) := by
  refine ⟨⟨by decide, Or.inr ⟨[], rfl, rfl⟩⟩, ⟨by decide, Or.inl ⟨rfl, rfl⟩⟩, ?_⟩
  unfold addressed; decide +kernel

/-- Keys in the intake and in the cache, by both ports and at both ends of the twin interval. -/
theorem test_meets_OffersRepeated :
    let o : Offer := { port := .b, seq := 7, payload := [0x8000, 1, 1] }
    let b : IntakeEntry := { origin := 1, seq := 7, port := .a, sweep := 0xFFFF, payload := [0, 1, 1] }
    let e : CacheEntry := { origin := 1, seq := 7, port := .b, sweep := 0, response := [0, 1, 7, 0] }
    let s := { State.reset with control := { State.reset.control with intake := [b] } }
    let s' := { State.reset with control := { State.reset.control with cache := [e] } }
    (offerTaken o s s ∧ offerTaken o s' s') ∧ addressed o s ∧ ControlOk s ∧ ControlOk s' ∧ (b.origin, b.seq) = (1, 7) ∧
      (e.origin, e.seq) = (1, 7) ∧ (o.port ≠ b.port ∧ s.classifier.sweepNumber - b.sweep = 1) ∧ o.port = e.port ∧
      s'.reports.queue.length < 16 := by
  refine ⟨⟨⟨by decide, Or.inl ⟨rfl, rfl⟩⟩, ⟨by decide, Or.inl ⟨rfl, rfl⟩⟩⟩, ?_⟩
  unfold addressed ControlOk; decide +kernel

/-- An empty intake, a block in execution, a block whose finish waits, a RESTART in progress. -/
theorem test_meets_ExecutionStarts :
    State.reset.control.intake = [] ∧ (restartUnderWay .lanes [5]).control.restart ≠ none ∧
      (inquiryUnderWay .portZero [1] 1 []).control.inquiry ≠ none ∧
      (let s := after (.unknownCode 0x25 []) (withFinishes [.later] (inBlock { code := 0x25, params := [] } 0 State.reset))
      (s.control.execution.bind (·.ended)) = some .stopped ∧ s.control.intake.length = 1) ∧
      (let s := inBlock (tableEnvelope .echo []) 0 State.reset
      s.control.execution ≠ none ∧ s.control.intake ≠ [] ∧ s.reports.queue.length < 16) ∧
      envelopesOf [0x8000, 1, 1, 0x0100] = some [{ code := 1, params := [] }] ∧ envelopesOf [0x8000, 1, 0] = none := by
  decide +kernel

theorem test_meets_AnswersMakeEntries :
    State.reset.control.execution = none ∧
      (let s := inBlock (tableEnvelope .echo []) 0 State.reset
      s.control.execution.map (·.todo) = some [tableEnvelope .echo []] ∧ s.control.intake.length = 1) ∧
      Status.noEntry ∉ [Status.ok, .queued, .scheduled] ∧ (0x8000 : Word).getLsbD 14 = false ∧ (0xC000 : Word).getLsbD 14 = true := by
  decide +kernel

/-- A head due exactly at TB with an owner that answers at once and one that answers later, a head one tick ahead, a held list, an
empty list; an expiry in service, its own and the walk's. -/
theorem test_meets_ExpiryIssuesHead :
    (let s := withList [sdl 0 100] 0
    s.scheduler.service = none ∧ s.scheduler.list = sdl 0 100 :: [] ∧ atOrBefore 100 s.time.tb = true ∧
      s.scheduler.overdue = 0 ∧ s.surroundings.answers.head? ≠ some .later ∧ (withAnswers [.later] s).surroundings.answers.head? = some .later) ∧
      atOrBefore 101 (withList [] 0).time.tb = false ∧ (withList [] 1).scheduler.overdue ≠ 0 ∧
      (∀ code ∈ [(Directive.halt, [(1 : Word)]), (.timeAdjust, [0, 9])],
        (serving code.1 code.2 false).scheduler.service =
            some { entry := { sdl 0 100 with code := code.1, params := code.2 }, late := false } ∧
          admissible code.1 code.2) ∧
      (serving .halt [1] true).scheduler.service ≠ none ∧
      { (serving .halt [1] false).scheduler with overdue := 1 }.overdue ≠ 0 := by decide +kernel

/-- No request, a request without a due head, with a due head whose owner answers at once and later; an expiry in service, the walk's
and another. -/
theorem test_meets_OverdueWalkExpiresDueEntries :
    ((withList [] 0).scheduler.service = none ∧ (withList [] 0).scheduler.overdue = 0) ∧
      (let s := withList [sdl 0 101] 1
      s.scheduler.overdue ≠ 0 ∧ ∀ e ∈ s.scheduler.list.head?.toList, atOrBefore e.due s.time.tb = false) ∧
      (let s := withList [sdl 0 100, sdl 1 101] 1
      s.scheduler.list = sdl 0 100 :: [sdl 1 101] ∧ atOrBefore (sdl 0 100).due s.time.tb = true ∧
        s.surroundings.answers.head? ≠ some .later ∧ (withAnswers [.later] s).surroundings.answers.head? = some .later) ∧
      (let s := serving .halt [1] true
      s.scheduler.service = some { entry := sdl 0 100, late := true } ∧ s.scheduler.overdue ≠ 0 ∧ admissible .halt [1]) ∧
      (serving .halt [1] false).scheduler.service = some { entry := sdl 0 100, late := false } := by decide +kernel

/-- A request behind one of its own block, and behind one of another; queues of 11 and 12. -/
theorem test_meets_NoticeRequestJudged :
    let s := { State.reset with requests := [.portUp .a, .flowSilent 5] }
    (∀ w ∈ [Notice.portUp .a], w ≠ .flowSilent 5) ∧ s.requests = [.portUp .a] ++ [.flowSilent 5] ++ [] ∧
      (∀ w ∈ [Notice.portUp .a], requesterOf w ≠ requesterOf (.flowSilent 5)) ∧
      requesterOf (.portUp .a) = requesterOf (.portDown .a) ∧
      s.reports.mask.getLsbD (noticeClass (.flowSilent 5)) = true ∧ s.reports.queue.length < 12 ∧
      noticeClass (.unitRestarted .full) = 8 ∧
      12 ≤ (List.replicate 12 (Report.mk .notice 0 0 [])).length := by decide +kernel

theorem test_meets_ReportTransmission :
    State.reset.reports.link = .head ∧ (after .reportCompletion State.reset).reports.link = .quiet ∧
      (after .restartFull State.reset).reports.link ≠ .quiet ∧ (after .restartFull State.reset).reports.link ≠ .head := by
  decide +kernel

/-- A state with a flow, a stored block queued and held on a running lane, an AT pending and a block in execution. -/
def busy : State :=
  let x := { laneIn .running 1000 500 [unit 2 600 false] (some (unit 1 500 false)) with
    frame := some { newFrame .unitFrame 0 (laneIn .running 1000 500 [] (some (unit 1 500 false))) 32 with block := some 0 } }
  let s := slotState x
  { inBlock (tableEnvelope .echo []) 0 s with
    ports := ⟨{ resetPort with up := true, receiving := true, buffer := [block 1 false] }, resetPort⟩
    classifier := { resetClassifier with table := [liveFlow 5 1] }
    store := { records := [{ ref := 0, payload := List.replicate 32 7, holders := 3 }], freeCells := 1023, freeRecords := 511, fullFlag := false }
    scheduler := { list := [sdl 0 2000], nextSerial := 1, overdue := 0, service := some { entry := sdl 7 100, late := false } }
    reports := { s.reports with reserved := true }
    pending := [.slotEvent 0] }

theorem test_meets_StepKeepsPorts : PortsOk busy ∧ FullFlagOk busy ∧ ∃ t, step busy = .next t := by
  refine ⟨?_, ?_, _, rfl⟩
  · unfold PortsOk portOk; decide +kernel
  · unfold FullFlagOk; decide +kernel

theorem test_meets_StepKeepsFlowTable : FlowTableOk busy ∧ ∃ t, step busy = .next t := by
  refine ⟨?_, _, rfl⟩
  unfold FlowTableOk flowOk
  decide +kernel

theorem test_meets_StepKeepsStoreAndHolders : StoreOk busy ∧ HoldersOk busy ∧ ∃ t, step busy = .next t := by
  refine ⟨?_, ?_, _, rfl⟩
  · unfold StoreOk storeOk; decide +kernel
  · unfold HoldersOk; decide +kernel

theorem test_meets_StepKeepsLanes : LanesOk busy ∧ QueuesOk busy ∧ ∃ t, step busy = .next t := by
  refine ⟨?_, ?_, _, rfl⟩
  · unfold LanesOk laneShape commandsOk; decide +kernel
  · unfold QueuesOk queueOrdered; decide +kernel

theorem test_meets_StepKeepsChargesAndGrids : ChargesOk busy ∧ GridsOk busy := by
  constructor
  · unfold ChargesOk; decide +kernel
  · unfold GridsOk gridOk; decide +kernel

/-- A running part, one UNSET, and one in the middle of a RESTART FULL. -/
theorem test_meets_StepKeepsTimeAndList :
    (∀ s ∈ [busy, State.reset, restartUnderWay .full [0, 5]], TimeOk s) ∧ (RestartOk busy ∧ RestartOk (restartUnderWay .full [0, 5])) ∧
      SdlOk busy ∧ SdlOrdered busy ∧ SdlPrompt busy ∧ ∃ t, step busy = .next t := by
  refine ⟨?_, ⟨?_, ?_⟩, ?_, ?_, ?_, _, rfl⟩
  · unfold TimeOk; decide +kernel
  · unfold RestartOk; decide +kernel
  · unfold RestartOk; decide +kernel
  · unfold SdlOk; decide +kernel
  · unfold SdlOrdered; decide +kernel
  · unfold SdlPrompt; decide +kernel

theorem test_meets_StepKeepsControlAndReports :
    (InquiryOk busy ∧ InquiryOk (inquiryUnderWay .portZero [1] 1 [])) ∧
      ControlOk busy ∧ ExecutionOk busy ∧ ResponsesFit busy ∧ ReportsOk busy ∧ ∃ t, step busy = .next t := by
  refine ⟨⟨?_, ?_⟩, ?_, ?_, ?_, ?_, _, rfl⟩
  · unfold InquiryOk; decide +kernel
  · unfold InquiryOk; decide +kernel
  · unfold ControlOk; decide +kernel
  · refine ⟨?_, ?_, ?_, ?_⟩
    · decide +kernel
    · decide +kernel
    · decide +kernel
    · show busy.reports.reserved = replyWanted [0x8000, 1, 2]; decide +kernel
  · unfold ResponsesFit; decide +kernel
  · unfold ReportsOk; decide +kernel

/-- Sixteen envelopes, one of 64 parameters. -/
theorem test_meets_EnvelopesRoundTrip :
    let es := { code := 1, params := List.replicate 64 5 } :: List.replicate 15 (tableEnvelope .unitRead [])
    1 ≤ es.length ∧ es.length ≤ 16 ∧ (∀ e ∈ es, e.params.length ≤ 64) ∧
      envelopesOf ([0, 0, 1] ++ [0x0101, 9]) = some [{ code := 1, params := [9] }] ∧
      WellFormed (.restartLanes [1]) = true ∧ envelopeOf (.restartLanes [1]) = some (tableEnvelope .restart [1]) := by
  decide +kernel

end Sys2Proof.Tests
end

section
/-! Lane transport control (07_lane_transport_control.md): START judged and applied (O34), and the arrival of the queued commands by
the succession table (O36). Each owner is described once, by what it answers for each outcome of its checks; the two statements
then follow from the form stage and the issue of a directive. -/

namespace Sys2Proof.Transport

open Sys2Proof.Machine Sys2Proof.Safety

/-! ## A directive issued alone -/

/-- An issued directive whose service is known. -/
theorem next_issueDirective_of_serve {d : Directive} {ps : List Word} {s : State} (h : mayIssue d ps s)
    {serve : List Word → Nat → State → Answer} {a : Answer} (ha : serve ps (roomFor s) s = a) :
    (.next (issueDirective d ps serve s) : Host.Outcome State Fault Refusal) =
      .next (answered d a.status a.results a.state) := by
  rw [issueDirective_of_mayIssue h, ha]

/-! ## START -/

/-- START takes three parameters (R140 check 2, R155). -/
theorem formStart_of_length_ne {ps : List Word} (h : ps.length ≠ 3) : formStart ps = .error .badParam := by
  unfold formStart
  split
  · exact absurd rfl h
  · rfl

/-- START's lane out of range (R101 check 2). -/
theorem formStart_badLane {lane : Word} (h : 16 ≤ lane.toNat) (high low : Word) :
    formStart [lane, high, low] = .error .badLane := by
  simp only [formStart, laneParam_of_le h]

/-- START's lane and anchor. -/
theorem formStart_ok {lane : Word} {l : LaneId} (h : lane.toNat = l.val) (high low : Word) :
    formStart [lane, high, low] = .ok (l, high ++ low) := by
  simp only [formStart, laneParam_of_eq h]
  rfl

/-- START served up to its form stage. -/
theorem serveStart_of_form_error {ps : List Word} {st : Status} (h : formStart ps = .error st) (room : Nat) (s : State) :
    serveStart ps room s = refuse st s := by
  simp only [serveStart, h, afterForm_error]

/-- START served by its lane. -/
theorem serveStart_of_form_ok {lane : Word} {l : LaneId} (h : lane.toNat = l.val) (high low : Word) (room : Nat)
    (s : State) : serveStart [lane, high, low] room s = ownStart l (high ++ low) s := by
  simp only [serveStart, formStart_ok h, afterForm_ok]

/-- An anchor that is not ahead of TB: TB itself, or half the range and more ahead (R64). -/
theorem strictlyAfter_eq_false_iff {a b : Tick} :
    strictlyAfter a b = false ↔ distance b a = 0 ∨ 2 ^ 31 ≤ distance b a := by
  simp only [strictlyAfter, decide_eq_false_iff_not]
  omega

section Checks

variable {x : Lane} {t : TimeBase} {anchor : Tick}

/-- R101 check 3. -/
theorem startFailure_noTime (ht : t.isSet = false) : startFailure x t anchor = some .noTime := by
  simp [startFailure, ht]

/-- R101 check 4. -/
theorem startFailure_active (ht : t.isSet = true) (hx : ¬ (x.state = .idle ∨ x.state = .parked)) :
    startFailure x t anchor = some .active := by
  simp [startFailure, ht, not_or.mp hx]

/-- Past R101's check 4, the anchor alone decides. -/
theorem startFailure_of_mayStart (ht : t.isSet = true) (hx : x.state = .idle ∨ x.state = .parked) :
    startFailure x t anchor =
      if strictlyAfter anchor t.tb = false then some .past
      else if 2 ^ 30 < distance t.tb anchor then some .tooFar
      else none := by
  have hactive : ¬ (x.state ≠ .idle ∧ x.state ≠ .parked) := by tauto
  rw [startFailure, if_neg (by simp [ht]), if_neg hactive]
  rfl

/-- R101 check 5. -/
theorem startFailure_past (ht : t.isSet = true) (hx : x.state = .idle ∨ x.state = .parked)
    (ha : distance t.tb anchor = 0 ∨ 2 ^ 31 ≤ distance t.tb anchor) : startFailure x t anchor = some .past := by
  rw [startFailure_of_mayStart ht hx, if_pos (strictlyAfter_eq_false_iff.mpr ha)]

/-- R101 check 6. -/
theorem startFailure_tooFar (ht : t.isSet = true) (hx : x.state = .idle ∨ x.state = .parked)
    (hfar : 2 ^ 30 < distance t.tb anchor) (ha : distance t.tb anchor < 2 ^ 31) :
    startFailure x t anchor = some .tooFar := by
  have hahead : ¬ strictlyAfter anchor t.tb = false := by
    rw [strictlyAfter_eq_false_iff]; omega
  rw [startFailure_of_mayStart ht hx, if_neg hahead, if_pos hfar]

/-- R101's checks all pass: the anchor is ahead of TB and within the horizon. -/
theorem startFailure_none (ht : t.isSet = true) (hx : x.state = .idle ∨ x.state = .parked)
    (hahead : 1 ≤ distance t.tb anchor) (hnear : distance t.tb anchor ≤ 2 ^ 30) : startFailure x t anchor = none := by
  have hafter : ¬ strictlyAfter anchor t.tb = false := by
    rw [strictlyAfter_eq_false_iff]; omega
  rw [startFailure_of_mayStart ht hx, if_neg hafter, if_neg (Nat.not_lt.mpr hnear)]

end Checks

theorem ownStart_of_failure {l : LaneId} {anchor : Tick} {s : State} {st : Status}
    (h : startFailure (laneOf s l) s.time anchor = some st) : ownStart l anchor s = refuse st s := by
  simp only [ownStart, h]

theorem ownStart_of_pass {l : LaneId} {anchor : Tick} {s : State}
    (h : startFailure (laneOf s l) s.time anchor = none) :
    ownStart l anchor s = done (updateLane l (startLane l s.time.tb anchor (laneOf s l)) s) := by
  simp only [ownStart, h]

/-- A lane replaced by one in another state: the entries it gave up are released in order, then LANE_STATE is requested (R52,
R99). -/
theorem updateLane_releases_then_notice {old new : LaneState} (h : old ≠ new) (l : LaneId) (y : Lane) (es : List Entry)
    (s : State) :
    updateLane l (y, releasesOf es ++ stateNotice l old new) s =
      { releaseEntries es (setLane l y s) with
        requests := (releaseEntries es (setLane l y s)).requests ++ [.laneState l old new] } := by
  simp only [updateLane, applyEffects_append, applyEffects_releasesOf, applyEffects_stateNotice, if_neg h, releaseEntries]

/-- Settles O34: the form stage makes R101's first two checks and the lane the other four; what passes all six is R102's start. -/
theorem startJudged : Obligations.StartJudged := by
  intro s ps hissue
  have hanswer {a : Answer} (ha : serveStart ps (roomFor s) s = a) :
      exec (.start ps) s = .next (answered .start a.status a.results a.state) :=
    next_issueDirective_of_serve hissue ha
  refine ⟨fun hlen => hanswer (serveStart_of_form_error (formStart_of_length_ne hlen) _ s), ?_⟩
  rintro lane high low rfl
  refine ⟨fun hlane => hanswer (serveStart_of_form_error (formStart_badLane hlane high low) _ s), fun l hl => ?_⟩
  have hrefused {st : Status} (h : startFailure (laneOf s l) s.time (high ++ low) = some st) :
      exec (.start [lane, high, low]) s = .next (answered .start st [] s) :=
    hanswer ((serveStart_of_form_ok hl high low _ s).trans (ownStart_of_failure h))
  refine ⟨fun ht => hrefused (startFailure_noTime ht), fun ht hx => hrefused (startFailure_active ht hx),
    fun ht hx ha => hrefused (startFailure_past ht hx ha),
    fun ht hx hfar ha => hrefused (startFailure_tooFar ht hx hfar ha), fun ht hx hahead hnear => ?_⟩
  have hstate : (laneOf s l).state ≠ .running := by
    rcases hx with hx | hx <;> rw [hx] <;> decide
  rw [hanswer ((serveStart_of_form_ok hl high low _ s).trans
    (ownStart_of_pass (startFailure_none ht hx hahead hnear))), done_status, done_results, done_state, startLane,
    updateLane_releases_then_notice hstate]
  rfl

/-! ## The queued commands -/

/-- The model's succession relation is R107's table of the statements, row by row. -/
theorem legalAfter_iff_mem_successors (last c : LastCommand) : legalAfter last c = true ↔ c ∈ successors last := by
  cases last <;> cases c <;> decide

theorem legalAfter_eq_false_iff (last c : LastCommand) : legalAfter last c = false ↔ c ∉ successors last := by
  rw [← legalAfter_iff_mem_successors, Bool.not_eq_true]

/-- RUN, HOLD, STEP, SEEK and CUE with a lane in range. -/
theorem serveCommand_of_lane {lane : Word} {l : LaneId} (h : lane.toNat = l.val) (c : Command) (room : Nat) (s : State) :
    serveCommand c [lane] room s = ownCommand l c s := by
  simp only [serveCommand, formLane, laneParam_of_eq h, afterForm_ok]

/-- STOP with mode FILL. -/
theorem serveStop_fill {lane : Word} {l : LaneId} (h : lane.toNat = l.val) (room : Nat) (s : State) :
    serveStop [lane, 0] room s = ownCommand l (.stop .fill) s := by
  simp [serveStop, formStop, laneParam_of_eq h]

/-- STOP with mode LAST. -/
theorem serveStop_last {lane : Word} {l : LaneId} (h : lane.toNat = l.val) (room : Nat) (s : State) :
    serveStop [lane, 1] room s = ownCommand l (.stop .last) s := by
  simp [serveStop, formStop, laneParam_of_eq h]

/-- The commands that queue, each as it is issued, and with STOP in both modes: the command line, its directive, the command it
queues, the preceding command that becomes, and its parameters (R106, R157). -/
def queuedForms (lane : Word) : List (Instr × Directive × Command × LastCommand × List Word) :=
  [(.run [lane], .run, .run, .run, [lane]), (.hold [lane], .hold, .hold, .hold, [lane]),
    (.step [lane], .step, .step, .step, [lane]), (.seek [lane], .seek, .seek, .seek, [lane]),
    (.cue [lane], .cue, .cue, .cue, [lane]), (.stop [lane, 0], .stop, .stop .fill, .stop, [lane, 0]),
    (.stop [lane, 1], .stop, .stop .last, .stop, [lane, 1])]

/-- Whatever queued command is issued, its lane judges it as the command that it is. -/
theorem exec_queuedForm {s : State} {l : LaneId} {lane : Word} {i : Instr} {d : Directive} {c : Command}
    {asLast : LastCommand} {ps : List Word} (hl : lane.toNat = l.val) (hform : (i, d, c, asLast, ps) ∈ queuedForms lane)
    (hissue : mayIssue d ps s) :
    lastOf c = asLast ∧
      exec i s =
        .next (answered d (ownCommand l c s).status (ownCommand l c s).results (ownCommand l c s).state) := by
  simp only [queuedForms, List.mem_cons, List.not_mem_nil, or_false, Prod.mk.injEq] at hform
  rcases hform with ⟨rfl, rfl, rfl, rfl, rfl⟩ | ⟨rfl, rfl, rfl, rfl, rfl⟩ | ⟨rfl, rfl, rfl, rfl, rfl⟩ |
    ⟨rfl, rfl, rfl, rfl, rfl⟩ | ⟨rfl, rfl, rfl, rfl, rfl⟩ | ⟨rfl, rfl, rfl, rfl, rfl⟩ | ⟨rfl, rfl, rfl, rfl, rfl⟩
  all_goals refine ⟨rfl, next_issueDirective_of_serve hissue ?_⟩
  iterate 5 exact serveCommand_of_lane hl _ _ s
  · exact serveStop_fill hl _ s
  · exact serveStop_last hl _ s

section Arrival

variable {x : Lane} {c : Command}

/-- R106: a queued command needs an active lane. -/
theorem arrivalFailure_notActive (h : ¬ (x.state ≠ .idle ∧ x.state ≠ .parked)) :
    arrivalFailure x c = some .notActive := by
  have hrest : x.state = .idle ∨ x.state = .parked := by tauto
  simp only [arrivalFailure, if_pos hrest]

/-- R107: the table decides on an active lane. -/
theorem arrivalFailure_order (hactive : x.state ≠ .idle ∧ x.state ≠ .parked) (h : lastOf c ∉ successors x.last) :
    arrivalFailure x c = some .order := by
  rw [arrivalFailure, if_neg (not_or.mpr hactive), if_pos ((legalAfter_eq_false_iff _ _).mpr h)]

/-- A legal command on an active lane needs a place alone (R106). -/
theorem arrivalFailure_of_legal (hactive : x.state ≠ .idle ∧ x.state ≠ .parked) (h : lastOf c ∈ successors x.last) :
    arrivalFailure x c = if 4 ≤ x.commands.length then some .cmdFull else none := by
  have hlegal : ¬ legalAfter x.last (lastOf c) = false := by
    rw [legalAfter_eq_false_iff]
    exact not_not.mpr h
  rw [arrivalFailure, if_neg (not_or.mpr hactive), if_neg hlegal]
  rfl

end Arrival

theorem ownCommand_of_failure {l : LaneId} {c : Command} {s : State} {st : Status}
    (h : arrivalFailure (laneOf s l) c = some st) : ownCommand l c s = refuse st s := by
  simp only [ownCommand, h]

theorem ownCommand_of_pass {l : LaneId} {c : Command} {s : State} (h : arrivalFailure (laneOf s l) c = none) :
    ownCommand l c s =
      { status := .queued, results := []
        state := setLane l { laneOf s l with commands := (laneOf s l).commands ++ [c], last := lastOf c } s } := by
  simp only [ownCommand, h]

/-- A lane of the shape of its state: a preceding command of none is met only in IDLE (R100). -/
theorem idle_of_last_none {x : Lane} (h : laneShape x) (hlast : x.last = .none) : x.state = .idle := by
  obtain ⟨_, _, _, hactive, _, _⟩ := h
  by_contra hstate
  exact hactive hstate hlast

/-- A lane of the shape of its state: what drains has been stopped (R107). -/
theorem last_stop_of_draining {x : Lane} (h : laneShape x) (hstate : x.state = .draining) : x.last = .stop := by
  obtain ⟨_, _, _, _, hdraining, _⟩ := h
  obtain ⟨_, hlast, _⟩ := hdraining hstate
  exact hlast

/-- Settles O36: the lane answers each queued command by R106's checks, whose second is R107's table; the last two claims are of the
lane shape. -/
theorem queuedCommandsFollowSuccession : Obligations.QueuedCommandsFollowSuccession := by
  refine ⟨?_, fun s l hs => ⟨idle_of_last_none (hs l), last_stop_of_draining (hs l)⟩⟩
  intro s l lane i d c asLast ps hl hform hissue
  obtain ⟨rfl, hexec⟩ := exec_queuedForm hl hform hissue
  have hrefused {st : Status} (h : arrivalFailure (laneOf s l) c = some st) :
      exec i s = .next (answered d st [] s) := by
    rw [hexec, ownCommand_of_failure h]
    rfl
  refine ⟨fun hrest => hrefused (arrivalFailure_notActive hrest),
    fun hactive horder => hrefused (arrivalFailure_order hactive horder), fun hactive hlegal hfull => hrefused ?_,
    fun hactive hlegal hroom => ?_⟩
  · rw [arrivalFailure_of_legal hactive hlegal, if_pos hfull]
  · have hpass : arrivalFailure (laneOf s l) c = none := by
      rw [arrivalFailure_of_legal hactive hlegal, if_neg (Nat.not_le.mpr hroom)]
    rw [hexec, ownCommand_of_pass hpass]
    rfl

end Sys2Proof.Transport
end

section
/-! Directive reference (09_directive_reference.md): ECHO (O25), GROUP_SET and NOTICE_MASK (O27). The walk of R4 is described by one
inversion, the form stages and the owners by what they answer in each of their cases. -/

namespace Sys2Proof.DirectiveReference

open Sys2Proof.Machine Sys2Proof.Safety

/-! ## The walk of R4 -/

/-- A walk of at least one envelope that succeeds: the first envelope and the walk of the words behind it. -/
theorem walkEnvelopes_succ_eq_some {count : Nat} {words : List Word} {es : List Envelope}
    (h : walkEnvelopes (count + 1) words = some es) :
    ∃ w ws rest, words = w :: ws ∧ envelopeCount w ≤ 64 ∧ envelopeCount w ≤ ws.length ∧
      walkEnvelopes count (ws.drop (envelopeCount w)) = some rest ∧
      es = { code := envelopeCode w, params := ws.take (envelopeCount w) } :: rest := by
  cases words with
  | nil => cases h
  | cons w ws =>
    rw [walkEnvelopes] at h
    split at h
    · next hfits =>
      obtain ⟨hparams, hwords⟩ := hfits
      split at h
      · next rest hrest => exact ⟨w, ws, rest, rfl, hparams, hwords, hrest, (Option.some.inj h).symm⟩
      · cases h
    · cases h

/-- No envelope of a walk has more than 64 parameters (R4). -/
theorem params_length_le_of_walkEnvelopes {count : Nat} {words : List Word} {es : List Envelope}
    (h : walkEnvelopes count words = some es) {e : Envelope} (he : e ∈ es) : e.params.length ≤ 64 := by
  induction count generalizing words es with
  | zero =>
    cases words with
    | nil =>
      cases h
      exact absurd he List.not_mem_nil
    | cons _ _ => cases h
  | succ count ih =>
    obtain ⟨w, ws, rest, -, hparams, -, hrest, rfl⟩ := walkEnvelopes_succ_eq_some h
    rcases List.mem_cons.mp he with rfl | he
    · exact (List.length_take_le _ _).trans hparams
    · exact ih hrest he

/-- A well-formed control payload is the walk of the words behind its header (R4, R128). -/
theorem walkEnvelopes_of_envelopesOf {payload : List Word} {es : List Envelope} (h : envelopesOf payload = some es) :
    walkEnvelopes (wordAt payload 2).toNat (payload.drop 3) = some es := by
  simp only [envelopesOf] at h
  split at h
  · exact h
  · cases h

/-! ## ECHO -/

/-- Settles O25: ECHO is a read-out of its own parameters, and the walk has bounded them. -/
theorem echoAnswers : Obligations.EchoAnswers := by
  refine ⟨fun ps s hissue => ?_,
    fun payload es e hes he => params_length_le_of_walkEnvelopes (walkEnvelopes_of_envelopesOf hes) he⟩
  have hanswer {a : Answer} (ha : readOut (roomFor s) ps s = a) :
      exec (.echo ps) s = .next (answered .echo a.status a.results a.state) :=
    Transport.next_issueDirective_of_serve hissue ha
  exact ⟨fun hfits => hanswer (readOut_of_le hfits), fun hover => hanswer (readOut_of_lt hover)⟩

/-! ## GROUP_SET -/

/-- GROUP_SET's address 0: no group (R144). -/
theorem formGroup_zero : formGroup [0] = .ok none := rfl

/-- GROUP_SET's group addresses (R144). -/
theorem formGroup_of_range {w : Word} (hlow : 64 ≤ w.toNat) (hhigh : w.toNat ≤ 254) :
    formGroup [w] = .ok (some (w.setWidth 8)) := by
  have hw : w ≠ 0 := by
    rintro rfl
    exact absurd hlow (by decide)
  rw [formGroup, if_neg hw, inRange, if_pos (decide_eq_true ⟨hlow, hhigh⟩), BitVec.setWidth_eq_extractLsb' (by decide)]

/-- GROUP_SET with another address, or not one parameter (R140 check 2, R144). -/
theorem formGroup_badParam {ps : List Word} (h : ∀ w, ps = [w] → w ≠ 0 ∧ (w.toNat < 64 ∨ 254 < w.toNat)) :
    formGroup ps = .error .badParam := by
  unfold formGroup
  split
  · next w =>
    obtain ⟨hw, hrange⟩ := h w rfl
    have hout : ¬ (64 ≤ w.toNat ∧ w.toNat ≤ 254) := by omega
    rw [if_neg hw, inRange, decide_eq_false hout]
    rfl
  · rfl

/-- GROUP_SET past its form stage. -/
theorem serveGroupSet_of_form_ok {ps : List Word} {group : Option (BitVec 8)} (h : formGroup ps = .ok group) (room : Nat)
    (s : State) : serveGroupSet ps room s = done { s with control := { s.control with group := group } } := by
  rw [serveGroupSet, h, afterForm_ok]
  rfl

/-- GROUP_SET refused by its form stage. -/
theorem serveGroupSet_of_form_error {ps : List Word} {st : Status} (h : formGroup ps = .error st) (room : Nat) (s : State) :
    serveGroupSet ps room s = refuse st s := by
  rw [serveGroupSet, h, afterForm_error]

/-! ## NOTICE_MASK -/

/-- The mask in the class set form with bit 8 set, of a parameter whose upper byte is ignored (R144, R184). -/
theorem maskWord_setWidth (w : Word) : maskWord (w.setWidth 8) = 0x0100 ||| (w &&& 0x00FF) := by
  have hlow : (w.setWidth 8).setWidth 16 = w &&& 0x00FF := by
    apply BitVec.eq_of_toNat_eq
    have hmask : w.toNat &&& 255 = w.toNat % 256 := Nat.and_two_pow_sub_one_eq_mod w.toNat 8
    rw [BitVec.toNat_setWidth, BitVec.toNat_setWidth, BitVec.toNat_and]
    change w.toNat % 256 % 65536 = w.toNat &&& 255
    omega
  rw [maskWord, hlow]

/-- NOTICE_MASK with room for its result word (R144). -/
theorem serveNoticeMask_of_room {room : Nat} (h : 1 ≤ room) (w : Word) (s : State) :
    serveNoticeMask [w] room s =
      { status := .ok, results := [0x0100 ||| (w &&& 0x00FF)]
        state := { s with reports := { s.reports with mask := w.setWidth 8 } } } := by
  have hroom : room ≠ 0 := by omega
  have hform : formOne [w] = .ok w := rfl
  rw [serveNoticeMask, hform, afterForm_ok, ownNoticeMask, if_neg hroom, ← BitVec.setWidth_eq_extractLsb' (by decide),
    maskWord_setWidth]
  rfl

/-- NOTICE_MASK with no room keeps the mask (R144). -/
theorem serveNoticeMask_noRoom (w : Word) (s : State) : serveNoticeMask [w] 0 s = refuse .noRoom s := rfl

/-- NOTICE_MASK takes one parameter (R140 check 2). -/
theorem serveNoticeMask_badParam {ps : List Word} (h : ps.length ≠ 1) (room : Nat) (s : State) :
    serveNoticeMask ps room s = refuse .badParam s := by
  have hform : formOne ps = .error .badParam := by
    unfold formOne
    split
    · exact absurd rfl h
    · rfl
  rw [serveNoticeMask, hform, afterForm_error]

/-- Settles O27: each setting is served by the case of its form stage and, for NOTICE_MASK, of the room. -/
theorem deviceSettings : Obligations.DeviceSettings := by
  intro ps s
  refine ⟨fun hissue => ?_, fun hissue => ?_⟩
  · have hanswer {a : Answer} (ha : serveGroupSet ps (roomFor s) s = a) :
        exec (.groupSet ps) s = .next (answered .groupSet a.status a.results a.state) :=
      Transport.next_issueDirective_of_serve hissue ha
    refine ⟨?_, ?_, fun hbad => hanswer (serveGroupSet_of_form_error (formGroup_badParam hbad) _ s)⟩
    · rintro rfl
      exact hanswer (serveGroupSet_of_form_ok formGroup_zero _ s)
    · rintro w rfl hlow hhigh
      exact hanswer (serveGroupSet_of_form_ok (formGroup_of_range hlow hhigh) _ s)
  · have hanswer {a : Answer} (ha : serveNoticeMask ps (roomFor s) s = a) :
        exec (.noticeMask ps) s = .next (answered .noticeMask a.status a.results a.state) :=
      Transport.next_issueDirective_of_serve hissue ha
    refine ⟨?_, ?_, fun hlen => hanswer (serveNoticeMask_badParam hlen _ s)⟩
    · rintro w rfl hroom
      exact hanswer (serveNoticeMask_of_room hroom w s)
    · rintro w rfl hroom
      exact hanswer ((congrArg (serveNoticeMask [w] · s) hroom).trans (serveNoticeMask_noRoom w s))

end Sys2Proof.DirectiveReference
end

section
/-! The elementary moves of the part: what a command does to ports, flow table, store, lanes, time base and directive scheduler is a
sequence of these. Every invariant of those blocks is proved once for each move. -/

namespace Sys2Proof.Elementary

open Sys2Proof.Machine Sys2Proof.Safety

/-! ## A port -/

/-- One of the five outcomes of a completed block counted (R14). -/
inductive OutcomeCounted (c : PortCounters) : PortCounters → Prop
  | media : OutcomeCounted c { c with mediaGood := bump c.mediaGood }
  | control : OutcomeCounted c { c with controlGood := bump c.controlGood }
  | crc : OutcomeCounted c { c with crc := bump c.crc }
  | length : OutcomeCounted c { c with length := bump c.length }
  | kind : OutcomeCounted c { c with kind := bump c.kind }

/-- A payload and a flow that R13's checks pass. -/
def goodMedia (m : Media) : Prop := m.payload.length ≤ 256 ∧ m.flow ≠ 0 ∧ m.flow ≠ 0xFFFF

/-- What a port does in one step. -/
inductive PortMove (x : Port) : Port → Prop
  /-- Link events and reception (R9..R12). -/
  | link {up receiving : Bool} (open_up : receiving = true → up = true) (truncated : Count) (flag : Bool) :
    PortMove x
      { x with up := up, receiving := receiving, counters := { x.counters with truncated := truncated }, errorFlag := flag }
  /-- A block completed (R13..R16). -/
  | completed {c : PortCounters} {ms : List Media}
      (counted : OutcomeCounted { x.counters with completed := bump x.counters.completed } c)
      (room : (x.buffer ++ ms).length ≤ max x.buffer.length 2) (good : ∀ m ∈ ms, goodMedia m) (overflow : Count) (flag : Bool) :
    PortMove x
      { x with receiving := false, counters := { c with overflow := overflow }, buffer := x.buffer ++ ms, errorFlag := flag }
  /-- The head of the receive buffer taken (R24). -/
  | popped : PortMove x { x with buffer := x.buffer.tail }
  /-- PORT_ZERO (R20). -/
  | zeroed : PortMove x { x with counters := zeroPortCounters, errorFlag := false }
  /-- RESTART FULL (R21). -/
  | restarted : PortMove x (restartPort x)

/-! ## The flow table -/

/-- What the classifier does to its table in one step. -/
inductive TableMove (t : List FlowEntry) : List FlowEntry → Prop
  | replaced {e x : FlowEntry} (mem : e ∈ t) (same : x.flow = e.flow) (keeps : flowOk e → flowOk x) :
    TableMove t (replaceFlow x t)
  | mapped {f : FlowEntry → FlowEntry} (same : ∀ e, (f e).flow = e.flow) (keeps : ∀ e, flowOk e → flowOk (f e)) :
    TableMove t (t.map f)
  | inserted {a : FlowSetArgs} (absent : findFlow a.flow t = none) (room : t.length < 64)
      (valid : a.flow ≠ 0 ∧ a.flow ≠ 0xFFFF) : TableMove t (insertFlow (newFlow a) t)
  | removed (p : FlowEntry → Bool) : TableMove t (t.filter p)

/-! ## A lane -/

/-- What a sequence of moves may contain: the media blocks it may place, whether it may serve directives, and whether the time base may
move and scheduled entries expire. -/
structure Scope where
  media : Media → Prop
  directives : Prop
  clock : Prop

/-- All moves. -/
def Scope.all (media : Media → Prop) : Scope := { media := media, directives := True, clock := True }

/-- What a lane does in one step without giving up or gaining a block, D saying whether directives may be served. -/
inductive LaneTouch (D : Prop) (x : Lane) : Lane → Prop
  | same : LaneTouch D x x
  | marked (allowed : x.state ≠ .idle ∨ D) (c : LaneCounters) (underrun refused overrun : Bool) :
    LaneTouch D x { x with counters := c, underrun := underrun, refused := refused, overrun := overrun }
  | aged : LaneTouch D x { x with frame := x.frame.map ageFrame }
  | configured {c : LaneConfig} (directed : D) (idle : x.state = .idle) (valid : configValid c = true) :
    LaneTouch D x { x with config := c }
  | sourced {f : Word} (directed : D) (valid : f ≠ 0xFFFF) :
    LaneTouch D x { x with config := { x.config with source := f } }
  | commanded {c : Command} (accepted : arrivalFailure x c = none) :
    LaneTouch D x { x with commands := x.commands ++ [c], last := lastOf c }
  | taken (l : LaneId) : LaneTouch D x (takeCommand l x).1
  | settled {new : LaneState} (old_admits : admitsUnits x.state = true) (new_admits : admitsUnits new = true) :
    LaneTouch D x { x with state := new }
  | parkedLast (draining : x.state = .draining) (empty : x.queue = []) : LaneTouch D x { x with state := .parked }
  | advanced (active : x.state ≠ .idle) : LaneTouch D x (advanceGrid x)
  | reanchored (delta : Tick) : LaneTouch D x (reanchor delta x)

/-- What a lane does in one step that gives up blocks, with the effects that release them. -/
inductive LaneDrop (D : Prop) (clock : TimeBase) (x : Lane) : Lane → List Effect → Prop
  | cut {a : LaneSourceArgs} (directed : D) (isCut : a.cut = true) (valid : a.flow ≠ 0xFFFF) :
    LaneDrop D clock x (switchSource a x).1 (switchSource a x).2
  | started (directed : D) (l : LaneId) {anchor : Tick} (accepted : startFailure x clock anchor = none) :
    LaneDrop D clock x (startLane l clock.tb anchor x).1 (startLane l clock.tb anchor x).2
  | halted (l : LaneId) : LaneDrop D clock x (haltLane l x).1 (haltLane l x).2
  | restarted (directed : D) (scope : RestartScope) : LaneDrop D clock x (laneAfterRestart scope x) (restartReleases x)
  | frameLeft : LaneDrop D clock x { x with frame := none } (frameRelease x)
  | selected {e : Entry} {passed left : List Entry} (active : x.state ≠ .idle) (parts : x.queue.Perm (passed ++ e :: left))
      (kept : left.Sublist x.queue)
      (later : queueOrdered x → ∀ y ∈ left, distance x.datum e.release < distance x.datum y.release) :
    LaneDrop D clock x (selectEntry e passed left x).lane (selectEntry e passed left x).effects
  | skipped {passed left : List Entry} (parts : x.queue.Perm (passed ++ left)) (kept : left.Sublist x.queue) :
    LaneDrop D clock x { x with queue := left } (releasesOf passed)
  | parkedFill (draining : x.state = .draining) (empty : x.queue = []) :
    LaneDrop D clock x { x with state := .parked, held := none } (releasesOf x.held.toList)

/-- Steps of a lane one after another, with their effects and the notices requested on the way. -/
inductive LaneRun (D : Prop) (clock : TimeBase) (x : Lane) : Lane → List Effect → Prop
  | start : LaneRun D clock x x []
  | touch {y z : Lane} {fx : List Effect} (before : LaneRun D clock x y fx) (move : LaneTouch D y z) : LaneRun D clock x z fx
  | drop {y z : Lane} {fx more : List Effect} (before : LaneRun D clock x y fx) (move : LaneDrop D clock y z more) :
    LaneRun D clock x z (fx ++ more)
  | notice {y : Lane} {fx : List Effect} (before : LaneRun D clock x y fx) (n : Notice) : LaneRun D clock x y (fx ++ [.request n])

/-! ## The part -/

/-- What no invariant speaks of may change: notices and offers that wait, the surroundings' choices, the classifier but its table. -/
def Beside (s t : State) : Prop :=
  t =
    { s with
      classifier := { t.classifier with table := s.classifier.table }
      offers := t.offers, requests := t.requests, surroundings := t.surroundings }

/-- One elementary move in the scope G. -/
inductive Move (G : Scope) (s : State) : State → Prop
  | beside {t : State} (h : Beside s t) : Move G s t
  | port {p : PortId} {y : Port} (h : PortMove (portOf s p) y) : Move G s (setPort p y s)
  | table {t : List FlowEntry} (h : TableMove s.classifier.table t) : Move G s (setTable t s)
  | lanes {v : Vector Lane 16} (h : ∀ l : LaneId, LaneTouch G.directives (laneOf s l) v[l]) : Move G s { s with lanes := v }
  | drop {l : LaneId} {y : Lane} {fx : List Effect} (h : LaneDrop G.directives s.time (laneOf s l) y fx) : Move G s (updateLane l (y, fx) s)
  | frame {l : LaneId} (kind : FrameKind) (slot : Tick) (active : (laneOf s l).state ≠ .idle)
      (quiet : (laneOf s l).frame = none) : Move G s (beginFrame l kind slot s)
  | stored {m : Media} (p : PortId) (room : storeHasRoom s.store m.payload.length = true)
      (some_pass : passingLanes m s ≠ []) :
    Move G s
      ((passingLanes m s).foldl (insertAt m p (nextRef s.store))
        (setStore (storeBlock m.payload (passingLanes m s).length s.store) s))
  | filled {m : Media} (good : G.media m) (no_room : storeHasRoom s.store m.payload.length = false) :
    Move G s (setStore { s.store with fullFlag := true } s)
  | timeSet (directed : G.directives) (v : Tick) (idle : allIdle s = true) :
    Move G s (setScheduler { s.scheduler with list := [] } (setTime { tb := v, isSet := true } s))
  | adjusted (clock : G.clock) {delta : Tick} (isSet : s.time.isSet = true) (guarded : guardRefuses delta s = false)
      (low : -16777216 ≤ delta.toInt) (high : delta.toInt ≤ 16777215) :
    Move G s (setTime { s.time with tb := s.time.tb + delta } s)
  | ticked (clock : G.clock) : Move G s (setTime { s.time with tb := s.time.tb + 1 } s)
  | scheduled (directed : G.directives) {a : AtArgs} {d : Directive} (passes : atFailure a s = none)
      (names : directiveOf (envelopeCode a.envelope) = some d) : Move G s (admitAt a d s)
  | cancelled (directed : G.directives) {list : List SdlEntry} (fewer : list.Sublist s.scheduler.list) :
    Move G s (setScheduler { s.scheduler with list := list } s)
  | expiring (clock : G.clock) {e : SdlEntry} {rest : List SdlEntry} (late : Bool) (head : s.scheduler.list = e :: rest) :
    Move G s (setScheduler { s.scheduler with list := rest, service := some { entry := e, late := late } } s)
  | answered (clock : G.clock) : Move G s (setScheduler { s.scheduler with service := none } s)
  | overdue (clock : G.clock) (n : Nat) : Move G s (setScheduler { s.scheduler with overdue := n } s)

/-- Moves one after another. -/
abbrev Moves (G : Scope) : State → State → Prop := Relation.ReflTransGen (Move G)

end Sys2Proof.Elementary
end


section
/-! Every operation of the part's blocks is a sequence of elementary moves: lanes, placement, classifier, ports. -/

namespace Sys2Proof.Elementary

open Sys2Proof.Machine Sys2Proof.Safety

variable {D : Prop} {clock : TimeBase}

/-! ## Steps of one lane carried out on the part -/

theorem setLane_laneOf (l : LaneId) (s : State) : setLane l (laneOf s l) s = s := by
  simp [setLane, laneOf]

@[simp] theorem setLane_setLane (l : LaneId) (x y : Lane) (s : State) : setLane l y (setLane l x s) = setLane l y s := by
  simp [setLane]

theorem judgeRecovery_setLane (l : LaneId) (y : Lane) (s : State) :
    judgeRecovery (setLane l y s) = setLane l y (judgeRecovery s) := by
  unfold judgeRecovery
  rw [setLane_store]
  split <;> rfl

theorem release_setLane (ref : Nat) (l : LaneId) (y : Lane) (s : State) :
    release ref (setLane l y s) = setLane l y (release ref s) := by
  unfold release
  rw [setLane_store]
  split
  · rfl
  · next r _ =>
    split
    · exact judgeRecovery_setLane l y (setStore (dropRecord r s.store) s)
    · rfl

theorem applyEffects_setLane (fx : List Effect) (l : LaneId) (y : Lane) (s : State) :
    applyEffects fx (setLane l y s) = setLane l y (applyEffects fx s) := by
  induction fx generalizing s with
  | nil => rfl
  | cons a rest ih =>
    have ha : applyEffect (setLane l y s) a = setLane l y (applyEffect s a) := by
      cases a with
      | release ref => exact release_setLane ref l y s
      | request n => rfl
    rw [applyEffects_cons, ha, ih, applyEffects_cons]

theorem laneOf_updateLane_same (l : LaneId) (r : Lane × List Effect) (s : State) : laneOf (updateLane l r s) l = r.1 := by
  simp [updateLane]

/-- Two changes of a lane in turn are one, their effects in order. -/
theorem updateLane_updateLane (l : LaneId) (y z : Lane) (fx more : List Effect) (s : State) :
    updateLane l (z, more) (updateLane l (y, fx) s) = updateLane l (z, fx ++ more) s := by
  simp only [updateLane, applyEffects_append, ← applyEffects_setLane, setLane_setLane]

/-- A lane that a touch changes. -/
theorem Move.setLane {G : Scope} {l : LaneId} {y : Lane} {s : State} (h : LaneTouch G.directives (laneOf s l) y) :
    Move G s (setLane l y s) := by
  refine .lanes fun k => ?_
  have hk : (s.lanes.set l y)[k] = if k = l then y else laneOf s k := laneOf_setLane l k y s
  rw [hk]
  split
  · next heq => exact heq ▸ h
  · exact .same

/-- Steps of a lane are moves of the part. -/
theorem LaneRun.moves {G : Scope} {l : LaneId} {s : State} {y : Lane} {fx : List Effect}
    (h : LaneRun G.directives s.time (laneOf s l) y fx) : Moves G s (updateLane l (y, fx) s) := by
  induction h with
  | start => rw [updateLane, applyEffects_nil, setLane_laneOf]
  | @touch y z fx _ move ih =>
    have hz : updateLane l (z, fx) s = Machine.setLane l z (updateLane l (y, fx) s) := by
      simp only [updateLane, ← applyEffects_setLane, setLane_setLane]
    rw [hz]
    exact ih.tail (.setLane (by rwa [laneOf_updateLane_same]))
  | @drop y z fx more _ move ih =>
    rw [← updateLane_updateLane l y z fx more s]
    exact ih.tail (.drop (by simpa [laneOf_updateLane_same, updateLane] using move))
  | @notice y fx _ n ih =>
    have hn : updateLane l (y, fx ++ [.request n]) s = request n (updateLane l (y, fx) s) := by
      simp [updateLane, applyEffects_append, applyEffect]
    rw [hn]
    exact ih.tail (.beside rfl)

theorem LaneRun.of_touch {x y : Lane} (h : LaneTouch D x y) : LaneRun D clock x y [] := .touch .start h

theorem LaneRun.of_drop {x y : Lane} {fx : List Effect} (h : LaneDrop D clock x y fx) : LaneRun D clock x y fx := .drop .start h

theorem LaneRun.trans {x y z : Lane} {fx more : List Effect} (h : LaneRun D clock x y fx) (h' : LaneRun D clock y z more) :
    LaneRun D clock x z (fx ++ more) := by
  induction h' with
  | start => simpa using h
  | touch _ move ih => exact .touch ih move
  | drop _ move ih => rw [← List.append_assoc]; exact .drop ih move
  | notice _ n ih => rw [← List.append_assoc]; exact .notice ih n

theorem LaneRun.stateNotice {x y : Lane} {fx : List Effect} (h : LaneRun D clock x y fx) (l : LaneId) (old new : LaneState) :
    LaneRun D clock x y (fx ++ stateNotice l old new) := by
  unfold Machine.stateNotice
  split
  · simpa using h
  · exact .notice h _

/-! ## The slot event -/

/-- The command stage. -/
theorem laneRun_takeCommand (l : LaneId) (x : Lane) : LaneRun D clock x (takeCommand l x).1 (takeCommand l x).2 := by
  have touch := LaneRun.of_touch (clock := clock) (LaneTouch.taken (D := D) (x := x) l)
  unfold takeCommand at touch ⊢
  split at touch
  · exact touch
  · split at touch
    · next h => simpa [h] using touch.stateNotice l _ _
    · next h => simpa [h] using touch

theorem laneRun_repeatOrFill {x : Lane} (active : x.state ≠ .idle) :
    LaneRun D clock x (repeatOrFill x).lane (repeatOrFill x).effects := by
  unfold repeatOrFill
  split <;> exact .of_touch (.marked (.inl active) _ _ _ _)

/-- The eligible entries and those beyond make up the queue (R84). -/
theorem eligible_append_beyond (slot : Tick) (q : List Entry) : eligible slot q ++ beyond slot q = q :=
  List.takeWhile_append_dropWhile

/-- Two release times equally far from a datum are equal. -/
theorem eq_of_distance_eq {a b c : Tick} (h : distance a b = distance a c) : b = c := by
  have := BitVec.eq_of_toNat_eq h
  simpa using this

/-- What stands beyond the eligible entries lies farther from the datum than any of them. -/
theorem distance_lt_of_mem_beyond {x : Lane} (h : queueOrdered x) {slot : Tick} {e y : Entry}
    (he : e ∈ eligible slot x.queue) (hy : y ∈ beyond slot x.queue) :
    distance x.datum e.release < distance x.datum y.release := by
  obtain ⟨-, sorted, -⟩ := h
  rcases hb : beyond slot x.queue with _ | ⟨b, rest⟩
  · simp [hb] at hy
  · have hparts := eligible_append_beyond slot x.queue
    rw [hb] at hparts hy
    rw [← hparts, List.map_append, List.pairwise_append, List.map_cons, List.pairwise_cons] at sorted
    obtain ⟨-, ⟨fromHead, -⟩, across⟩ := sorted
    have heb : distance x.datum e.release ≤ distance x.datum b.release :=
      across _ (List.mem_map_of_mem he) _ (by simp)
    have hby : distance x.datum b.release ≤ distance x.datum y.release := by
      rcases List.mem_cons.mp hy with rfl | hy
      · exact Nat.le_refl _
      · exact fromHead _ (List.mem_map_of_mem hy)
    have hne : distance x.datum e.release ≠ distance x.datum b.release := by
      intro heq
      have hrel : e.release = b.release := eq_of_distance_eq heq
      have hgood : atOrBefore e.release slot = true :=
        List.mem_takeWhile_imp (p := fun e : Entry => atOrBefore e.release slot) he
      have hbad : atOrBefore b.release slot = false := by
        have := List.head?_dropWhile_not (fun e : Entry => atOrBefore e.release slot) x.queue
        rw [show x.queue.dropWhile (fun e => atOrBefore e.release slot) = b :: rest from hb] at this
        exact this
      rw [hrel, hbad] at hgood
      cases hgood
    omega

/-- Presentation by time: a selection, or a repeat or fill with its underrun. -/
theorem laneRun_presentByTime (l : LaneId) (slot : Tick) {x : Lane} (active : x.state ≠ .idle) :
    LaneRun D clock x (presentByTime l slot x).lane (presentByTime l slot x).effects := by
  unfold presentByTime
  split
  · next e he =>
    have hmem : e ∈ eligible slot x.queue := List.mem_of_getLast? he
    have hparts : (eligible slot x.queue).dropLast ++ [e] = eligible slot x.queue := by
      have := List.dropLast_append_getLast? e he
      simpa using this
    refine .of_drop (.selected active ?_ (List.dropWhile_sublist _) fun h y hy => distance_lt_of_mem_beyond h hmem hy)
    have hq : x.queue = (eligible slot x.queue).dropLast ++ e :: beyond slot x.queue := by
      rw [List.append_cons, hparts, eligible_append_beyond]
    exact .of_eq hq
  · have hrun := laneRun_repeatOrFill (D := D) (clock := clock) active
    have hfx : (repeatOrFill x).effects = [] := by unfold repeatOrFill; split <;> rfl
    rw [hfx] at hrun
    simp only [markUnderrun]
    split
    · exact hrun
    · have hstate : (repeatOrFill x).lane.state ≠ .idle := by
        unfold repeatOrFill
        split <;> exact active
      exact .notice (.touch hrun (.marked (.inl hstate) _ true _ _)) _

/-- Entries skipped without a selection. -/
theorem laneRun_skipEntries {skipped left : List Entry} {x : Lane} (active : x.state ≠ .idle) (parts : x.queue.Perm (skipped ++ left))
    (kept : left.Sublist x.queue) : LaneRun D clock x (skipEntries skipped left x).lane (skipEntries skipped left x).effects := by
  have hdrop : LaneRun D clock x { x with queue := left } (releasesOf skipped) := .of_drop (.skipped parts kept)
  have hcount := hdrop.touch
    (.marked (x := { x with queue := left }) (.inl active) { x.counters with skipped := satAdd x.counters.skipped skipped.length } x.underrun x.refused
      x.overrun)
  have hshown := hcount.trans (laneRun_repeatOrFill active)
  have hfx (y : Lane) : (repeatOrFill y).effects = [] := by unfold repeatOrFill; split <;> rfl
  rw [hfx, List.append_nil] at hshown
  exact hshown

/-- A selection out of the order of time: the entries behind of the same release time go with those ahead (R111). -/
theorem laneRun_selectOffTime {ahead : List Entry} {e : Entry} {behind : List Entry} {x : Lane} (active : x.state ≠ .idle)
    (hq : x.queue = ahead ++ e :: behind) :
    LaneRun D clock x (selectOffTime ahead e behind x).lane (selectOffTime ahead e behind x).effects := by
  refine .of_drop (.selected active ?_ ?_ ?_)
  · rw [hq, List.append_assoc]
    refine List.Perm.append_left ahead ?_
    refine (List.Perm.cons e ?_).trans List.perm_middle.symm
    exact (List.filter_append_perm (fun y => y.release == e.release) behind).symm
  · rw [hq]
    exact ((List.filter_sublist).trans (List.sublist_cons_self e behind)).trans (List.sublist_append_right ahead _)
  · rintro ⟨-, sorted, -⟩ y hy
    rw [List.mem_filter] at hy
    obtain ⟨hy, hne⟩ := hy
    rw [hq, List.map_append, List.pairwise_append, List.map_cons, List.pairwise_cons] at sorted
    obtain ⟨-, ⟨fromHead, -⟩, -⟩ := sorted
    refine lt_of_le_of_ne (fromHead _ (List.mem_map_of_mem hy)) fun heq => ?_
    have hrel : e.release = y.release := eq_of_distance_eq heq
    simp [hrel] at hne

/-- A presentation and the change of state behind it (R99). -/
theorem laneRun_thenState {l : LaneId} {new : LaneState} {x : Lane} {r : Presented}
    (h : LaneRun D clock x r.lane r.effects) (move : LaneTouch D r.lane { r.lane with state := new }) :
    LaneRun D clock x (thenState l new r).lane (thenState l new r).effects :=
  (h.touch move).stateNotice l _ _

/-- The marker found stands in the queue with what is ahead of it and behind it (R114). -/
theorem findMarker_eq_some {slot : Tick} {q ahead behind : List Entry} {e : Entry}
    (h : findMarker slot q = some (ahead, e, behind)) : q = ahead ++ e :: behind := by
  unfold findMarker at h
  split at h
  · cases h
  · next e' more hd =>
    simp only [Option.some.injEq, Prod.mk.injEq] at h
    obtain ⟨rfl, rfl, rfl⟩ := h
    have hq := eligible_append_beyond slot q
    have he := List.takeWhile_append_dropWhile (p := fun y : Entry => !y.marker) (l := eligible slot q)
    rw [hd] at he
    rw [← List.cons_append, ← List.append_assoc, he, hq]

theorem laneRun_presentHeld (slot : Tick) {x : Lane} (active : x.state ≠ .idle) :
    LaneRun D clock x (presentHeld slot x).lane (presentHeld slot x).effects := by
  have hparts : (eligible slot x.queue).dropLast ++ ((eligible slot x.queue).getLast?.toList ++ beyond slot x.queue) =
      x.queue := by
    rw [← List.append_assoc]
    have hlast : ∀ es : List Entry, es.dropLast ++ es.getLast?.toList = es := by
      intro es
      rcases List.eq_nil_or_concat es with rfl | ⟨init, last, rfl⟩ <;> simp
    rw [hlast, eligible_append_beyond]
  refine laneRun_skipEntries active (.of_eq hparts.symm) ?_
  conv_rhs => rw [← hparts]
  exact List.sublist_append_right _ _

theorem laneRun_presentStepping (l : LaneId) {x : Lane} (stepping : x.state = .stepping) :
    LaneRun D clock x (presentStepping l x).lane (presentStepping l x).effects := by
  unfold presentStepping
  split
  · exact laneRun_repeatOrFill (by simp [stepping])
  · next e behind hq =>
    refine laneRun_thenState (laneRun_selectOffTime (by simp [stepping]) (by simpa using hq)) (.settled ?_ rfl)
    change admitsUnits x.state = true
    rw [stepping]; rfl

/-- SEEKING and CUEING at a marker (R114, R115). -/
theorem laneRun_atMarker {l : LaneId} {slot : Tick} {x : Lane} {new : LaneState} {ahead behind : List Entry} {e : Entry}
    (old_admits : admitsUnits x.state = true) (new_admits : admitsUnits new = true)
    (h : findMarker slot x.queue = some (ahead, e, behind)) :
    LaneRun D clock x (thenState l new (selectOffTime ahead e behind x)).lane
      (thenState l new (selectOffTime ahead e behind x)).effects := by
  have active : x.state ≠ .idle := by
    intro hidle
    rw [hidle] at old_admits
    cases old_admits
  exact laneRun_thenState (laneRun_selectOffTime active (findMarker_eq_some h)) (.settled old_admits new_admits)

theorem laneRun_presentSeeking (l : LaneId) (slot : Tick) {x : Lane} (seeking : x.state = .seeking) :
    LaneRun D clock x (presentSeeking l slot x).lane (presentSeeking l slot x).effects := by
  unfold presentSeeking
  split
  · next h => exact laneRun_atMarker (by rw [seeking]; rfl) rfl h
  · exact laneRun_presentByTime l slot (by simp [seeking])

theorem laneRun_presentCueing (l : LaneId) (slot : Tick) {x : Lane} (cueing : x.state = .cueing) :
    LaneRun D clock x (presentCueing l slot x).lane (presentCueing l slot x).effects := by
  unfold presentCueing
  split
  · next h => exact laneRun_atMarker (by rw [cueing]; rfl) rfl h
  · exact laneRun_skipEntries (by simp [cueing]) (.of_eq (eligible_append_beyond slot x.queue).symm) (List.dropWhile_sublist _)

theorem laneRun_park (l : LaneId) {x : Lane} (draining : x.state = .draining) (empty : x.queue = []) :
    LaneRun D clock x (park l x).lane (park l x).effects := by
  have hfx (y : Lane) : (repeatOrFill y).effects = [] := by unfold repeatOrFill; split <;> rfl
  unfold park
  split
  · have hrun : LaneRun D clock x { x with state := .parked } [] := .of_touch (.parkedLast draining empty)
    have hshown := hrun.trans (laneRun_repeatOrFill (by simp))
    have hlane : (repeatOrFill { x with state := .parked }).lane = { (repeatOrFill x).lane with state := .parked } := by
      rcases x with ⟨_, _, _, _ | _, _⟩ <;> rfl
    rw [hfx, hlane] at hshown
    simpa [thenState, hfx] using hshown.stateNotice l (repeatOrFill x).lane.state .parked
  · have hrun : LaneRun D clock x { x with state := .parked, held := none } (releasesOf x.held.toList) :=
      .of_drop (.parkedFill draining empty)
    have hshown := hrun.trans (laneRun_repeatOrFill (by simp))
    have hlane : (repeatOrFill { x with state := .parked, held := none }).lane =
        { (repeatOrFill { x with held := none }).lane with state := .parked } := rfl
    rw [hfx, hlane, List.append_nil] at hshown
    exact hshown.stateNotice l _ _

/-- Every presentation of an active lane is a run of elementary steps (R83 stage 2). -/
theorem laneRun_present (l : LaneId) (slot : Tick) {x : Lane} (active : x.state ≠ .idle) :
    LaneRun D clock x (present l slot x).lane (present l slot x).effects := by
  unfold present
  split
  · exact laneRun_repeatOrFill active
  · next h => exact laneRun_presentByTime l slot (by simp [h])
  · exact laneRun_presentHeld slot active
  · next h => exact laneRun_presentStepping l h
  · next h => exact laneRun_presentSeeking l slot h
  · next h => exact laneRun_presentCueing l slot h
  · next h =>
    unfold presentDraining
    split
    · next hq => exact laneRun_park l h hq
    · exact laneRun_presentByTime l slot (by simp [h])
  · exact laneRun_repeatOrFill active

/-- A presentation never makes a lane IDLE. -/
theorem present_state_ne_idle {l : LaneId} {slot : Tick} {x : Lane} (h : x.state ≠ .idle) :
    (present l slot x).lane.state ≠ .idle := by
  have hrof (y : Lane) : (repeatOrFill y).lane.state = y.state := by unfold repeatOrFill; split <;> rfl
  have htime : (presentByTime l slot x).lane.state = x.state := by
    unfold presentByTime
    split
    · rfl
    · simp only [markUnderrun]
      split <;> exact hrof x
  unfold present
  split
  · rwa [hrof]
  · rwa [htime]
  · change (repeatOrFill _).lane.state ≠ .idle
    rwa [hrof]
  · unfold presentStepping
    split
    · rwa [hrof]
    · simp [thenState]
  · unfold presentSeeking
    split
    · simp [thenState]
    · rwa [htime]
  · unfold presentCueing
    split
    · simp [thenState]
    · change (repeatOrFill _).lane.state ≠ .idle
      rwa [hrof]
  · unfold presentDraining
    split
    · unfold park
      split <;> simp [thenState]
    · rwa [htime]
  · rwa [hrof]

theorem takeCommand_state_ne_idle {l : LaneId} {x : Lane} (h : x.state ≠ .idle) : (takeCommand l x).1.state ≠ .idle := by
  unfold takeCommand
  split
  · exact h
  · next c rest _ =>
    split
    · cases c <;> simp [commandState]
    · exact h

theorem laneRun_commandAndPresent (l : LaneId) {x : Lane} (active : x.state ≠ .idle) :
    LaneRun D clock x (commandAndPresent l x).lane (commandAndPresent l x).effects :=
  (laneRun_takeCommand l x).trans (laneRun_present l _ (takeCommand_state_ne_idle active))

theorem commandAndPresent_state_ne_idle {l : LaneId} {x : Lane} (h : x.state ≠ .idle) :
    (commandAndPresent l x).lane.state ≠ .idle :=
  present_state_ne_idle (takeCommand_state_ne_idle h)

/-- The frame stage of an active lane (R83 stage 3). -/
theorem moves_frameStage {G : Scope} {l : LaneId} (kind : FrameKind) (slot : Tick) {s : State}
    (active : (laneOf s l).state ≠ .idle) : Moves G s (frameStage l kind slot s) := by
  unfold frameStage
  split
  · have touch {marked : Bool} : Move G s (setLane l { laneOf s l with
        counters := { (laneOf s l).counters with overruns := bump (laneOf s l).counters.overruns }, overrun := marked } s) :=
      .setLane (.marked (.inl active) _ _ _ marked)
    simp only [overrunSlot]
    split
    · exact .single touch
    · exact Relation.ReflTransGen.tail (.single touch) (.beside rfl)
  · next h => exact .single (.frame kind slot active h)

theorem frameStage_state {l : LaneId} (kind : FrameKind) (slot : Tick) (s : State) :
    (laneOf (frameStage l kind slot s) l).state = (laneOf s l).state := by
  rw [laneOf_frameStage]
  split <;> rfl

/-- A slot event (R83). -/
theorem moves_slotEvent {G : Scope} (l : LaneId) (s : State) : Moves G s (slotEvent l s) := by
  unfold slotEvent
  split
  · next hdue =>
    have active : (laneOf s l).state ≠ .idle := by
      simp only [slotDue, Bool.and_eq_true, decide_eq_true_eq] at hdue
      exact hdue.1
    have hpresent : Moves G s (updateLane l ((commandAndPresent l (laneOf s l)).lane,
        (commandAndPresent l (laneOf s l)).effects) s) := (laneRun_commandAndPresent l active).moves
    have hactive : (laneOf (updateLane l ((commandAndPresent l (laneOf s l)).lane,
        (commandAndPresent l (laneOf s l)).effects) s) l).state ≠ .idle := by
      rw [laneOf_updateLane_same]
      exact commandAndPresent_state_ne_idle active
    refine (hpresent.trans (moves_frameStage _ _ hactive)).tail (.setLane (.advanced ?_))
    rw [frameStage_state]
    exact hactive
  · exact .refl

/-- FRAME_COMPLETION (R89). -/
theorem moves_frameCompletion {G : Scope} (l : LaneId) (s : State) : Moves G s (frameCompletion l s) := by
  simp only [frameCompletion]
  split
  · exact .single (.drop .frameLeft)
  · exact .refl

end Sys2Proof.Elementary
end


section
/-! Placement (R56..R60): what the tests, the insertions and the losses to the store make of every lane, and of the requests. -/

namespace Sys2Proof.Placement

open Sys2Proof.Machine Sys2Proof.Safety

/-! ## One change carried out on lane after lane -/

/-- A lane changed by g, with the notices h requested. -/
def onLane (g : LaneId → Lane → Lane) (h : LaneId → Lane → List Notice) (s : State) (l : LaneId) : State :=
  { s with lanes := s.lanes.set l (g l (laneOf s l)), requests := s.requests ++ h l (laneOf s l) }

/-- The lanes of a state, those of a list changed by g. -/
@[irreducible] def lanesWith (ls : List LaneId) (g : LaneId → Lane → Lane) (s : State) : Vector Lane 16 :=
  Vector.ofFn fun l => if l ∈ ls then g l (laneOf s l) else laneOf s l

theorem laneOf_of_lanes {ls : List LaneId} {g : LaneId → Lane → Lane} {s t : State} (h : t.lanes = lanesWith ls g s)
    (l : LaneId) : laneOf t l = if l ∈ ls then g l (laneOf s l) else laneOf s l := by
  simp [laneOf, h, lanesWith]

theorem laneOf_of_all_lanes {g : LaneId → Lane → Lane} {s t : State} (h : t.lanes = lanesWith (List.finRange 16) g s)
    (l : LaneId) : laneOf t l = g l (laneOf s l) := by
  rw [laneOf_of_lanes h, if_pos (List.mem_finRange l)]

/-- The lanes of a state alone decide. -/
theorem lanesWith_congr {s t : State} (h : t.lanes = s.lanes) (ls : List LaneId) (g : LaneId → Lane → Lane) :
    lanesWith ls g t = lanesWith ls g s := by
  simp only [lanesWith, laneOf, h]

/-- Lanes with the same states are the same. -/
theorem lanes_ext {v w : Vector Lane 16} (h : ∀ l : LaneId, v[l] = w[l]) : v = w := by
  ext i hi : 1
  exact h ⟨i, hi⟩

/-- A change carried out on different lanes in turn meets each as it was. -/
theorem foldl_onLane {g : LaneId → Lane → Lane} {h : LaneId → Lane → List Notice} {ls : List LaneId} (hls : ls.Nodup)
    (s : State) :
    ls.foldl (onLane g h) s =
      { s with lanes := lanesWith ls g s, requests := s.requests ++ ls.flatMap fun l => h l (laneOf s l) } := by
  induction ls generalizing s with
  | nil =>
    have hlanes : lanesWith [] g s = s.lanes := lanes_ext fun l => by simp [lanesWith, laneOf]
    simp [hlanes]
  | cons k rest ih =>
    obtain ⟨hk, hrest⟩ := List.nodup_cons.mp hls
    have hof (l : LaneId) : laneOf (onLane g h s k) l = if l = k then g k (laneOf s k) else laneOf s l :=
      laneOf_setLane k l _ s
    have hother {l : LaneId} (hl : l ∈ rest) : laneOf (onLane g h s k) l = laneOf s l := by
      rw [hof, if_neg (ne_of_mem_of_not_mem hl hk)]
    have hlanes : lanesWith rest g (onLane g h s k) = lanesWith (k :: rest) g s := by
      refine lanes_ext fun l => ?_
      simp only [lanesWith, Fin.getElem_fin, Vector.getElem_ofFn, List.mem_cons]
      by_cases hl : l ∈ rest
      · simp [hl, hother hl]
      · by_cases hlk : l = k
        · subst hlk; simp [hl, hof]
        · simp [hl, hlk, hof]
    have hnotices : (rest.flatMap fun l => h l (laneOf (onLane g h s k) l)) = rest.flatMap fun l => h l (laneOf s l) :=
      List.flatMap_congr fun l hl => by rw [hother hl]
    rw [List.foldl_cons, ih hrest, hlanes, hnotices]
    simp [onLane]

/-- A fold whose steps are such changes as long as the time base stands. -/
theorem foldl_eq_onLane {f : State → LaneId → State} {g : LaneId → Lane → Lane} {h : LaneId → Lane → List Notice}
    {ls : List LaneId} (s : State) (hf : ∀ t l, t.time = s.time → f t l = onLane g h t l) :
    ls.foldl f s = ls.foldl (onLane g h) s := by
  have key : ∀ t : State, t.time = s.time → ls.foldl f t = ls.foldl (onLane g h) t := by
    induction ls with
    | nil => exact fun _ _ => rfl
    | cons l rest ih => exact fun t ht => by rw [List.foldl_cons, List.foldl_cons, hf t l ht]; exact ih _ ht
  exact key s rfl

/-! ## The tests (R57, R60) -/

/-- A refusal for lack of room. -/
def lacksRoom : LaneTest → Option RefusalKind
  | .queueFull => some .queue
  | .quota => some .quota
  | _ => none

/-- A lane after placement's tests. -/
def testedLane (m : Media) (tb : Tick) (x : Lane) : Lane :=
  if isCandidate m.flow x then
    { x with
      counters := countTest (testLane x tb m) x.counters
      refused := x.refused || (lacksRoom (testLane x tb m)).isSome }
  else x

/-- The notices of a refused lane's REFUSED flag (R60). -/
def refusalNotices (l : LaneId) (k : Option RefusalKind) (x : Lane) : List Notice :=
  if x.refused then [] else k.toList.map (.laneRefused l)

/-- The notices of a lane's tests. -/
def testNotices (m : Media) (tb : Tick) (l : LaneId) (x : Lane) : List Notice :=
  if isCandidate m.flow x then refusalNotices l (lacksRoom (testLane x tb m)) x else []

/-- A counter changed and a refusal noted, as one change of the lane. -/
theorem refusedForRoom_countLane (l : LaneId) (k : RefusalKind) (f : LaneCounters → LaneCounters) (s : State) :
    refusedForRoom l k (countLane l f s) =
      onLane (fun _ x => { x with counters := f x.counters, refused := true }) (fun l x => refusalNotices l (some k) x) s l := by
  rw [refusedForRoom_eq]
  unfold onLane refusalNotices countLane
  simp only [laneOf_setLane_same]
  split
  · next h => simp [h, setLane]
  · next h => simp [h, setLane]

theorem countLane_eq_onLane (l : LaneId) (f : LaneCounters → LaneCounters) (s : State) :
    countLane l f s = onLane (fun _ x => { x with counters := f x.counters }) (fun _ _ => []) s l := by
  simp [countLane, onLane, setLane]

theorem testCandidate_eq (m : Media) (s : State) (l : LaneId) :
    testCandidate m s l = onLane (fun _ x => testedLane m s.time.tb x) (testNotices m s.time.tb) s l := by
  unfold testCandidate testedLane testNotices
  split
  · next h =>
    unfold noteTest
    cases ht : testLane (laneOf s l) s.time.tb m
    case queueFull => simp only [refusedForRoom_countLane]; simp [onLane, h, ht, lacksRoom]
    case quota => simp only [refusedForRoom_countLane]; simp [onLane, h, ht, lacksRoom]
    all_goals simp [countLane_eq_onLane, onLane, h, ht, lacksRoom, refusalNotices]
  · next h =>
    have hlanes : s.lanes.set l (laneOf s l) = s.lanes := by simp [laneOf]
    simp only [onLane, h, Bool.false_eq_true, if_false, List.append_nil, hlanes]

/-- The part after placement's tests. -/
theorem foldl_testCandidate (m : Media) (s : State) :
    (List.finRange 16).foldl (testCandidate m) s =
      { s with
        lanes := lanesWith (List.finRange 16) (fun _ => testedLane m s.time.tb) s
        requests := s.requests ++ (List.finRange 16).flatMap fun l => testNotices m s.time.tb l (laneOf s l) } := by
  rw [foldl_eq_onLane (g := fun _ => testedLane m s.time.tb) (h := testNotices m s.time.tb) s
    (fun t l ht => by rw [testCandidate_eq, ht]), foldl_onLane (List.nodup_finRange 16)]

/-- A lane passes the tests (R57). -/
def lanePasses (m : Media) (tb : Tick) (x : Lane) : Bool := isCandidate m.flow x && decide (testLane x tb m = .pass)

theorem mem_passingLanes {m : Media} {s : State} {l : LaneId} :
    l ∈ passingLanes m s ↔ lanePasses m s.time.tb (laneOf s l) = true := by
  simp [passingLanes, lanePasses]

theorem nodup_passingLanes (m : Media) (s : State) : (passingLanes m s).Nodup :=
  (List.nodup_finRange 16).filter _

/-- A passing lane is as it was (R57). -/
theorem testedLane_of_passes {m : Media} {tb : Tick} {x : Lane} (h : lanePasses m tb x = true) : testedLane m tb x = x := by
  simp only [lanePasses, Bool.and_eq_true, decide_eq_true_eq] at h
  obtain ⟨hc, ht⟩ := h
  simp [testedLane, hc, ht, countTest, lacksRoom]

/-- The tests do not change what they look at. -/
theorem lanePasses_testedLane (m : Media) (tb : Tick) (x : Lane) :
    lanePasses m tb (testedLane m tb x) = lanePasses m tb x := by
  unfold testedLane
  split
  · rfl
  · rfl

theorem foldl_testCandidate_lanes (m : Media) (s : State) :
    ((List.finRange 16).foldl (testCandidate m) s).lanes =
      lanesWith (List.finRange 16) (fun _ => testedLane m s.time.tb) s := by
  rw [foldl_testCandidate]

theorem passingLanes_tested (m : Media) (s : State) :
    passingLanes m ((List.finRange 16).foldl (testCandidate m) s) = passingLanes m s := by
  have htime : ((List.finRange 16).foldl (testCandidate m) s).time = s.time := by rw [foldl_testCandidate]
  refine List.filter_congr fun l _ => ?_
  rw [htime, laneOf_of_all_lanes (foldl_testCandidate_lanes m s)]
  exact lanePasses_testedLane m s.time.tb (laneOf s l)

/-! ## The insertions and the losses (R59, R60) -/

/-- A lane with the block's entry inserted (R59, R79). -/
def insertedLane (m : Media) (p : PortId) (ref : Nat) (x : Lane) : Lane :=
  { x with queue := insertEntry x.datum (entryFor x.config m p ref) x.queue }

/-- A lane that has lost the block to the store (R59, R60). -/
def lostLane (x : Lane) : Lane :=
  { x with counters := { x.counters with refusedStore := bump x.counters.refusedStore }, refused := true }

theorem foldl_insertAt {ls : List LaneId} (hls : ls.Nodup) (m : Media) (p : PortId) (ref : Nat) (s : State) :
    ls.foldl (insertAt m p ref) s = { s with lanes := lanesWith ls (fun _ => insertedLane m p ref) s } := by
  rw [foldl_eq_onLane (g := fun _ => insertedLane m p ref) (h := fun _ _ => []) s
    (fun t l _ => by simp [insertAt, onLane, setLane, insertedLane]), foldl_onLane hls]
  simp

theorem foldl_loseToStore {ls : List LaneId} (hls : ls.Nodup) (s : State) :
    ls.foldl loseToStore s =
      { s with
        lanes := lanesWith ls (fun _ => lostLane) s
        requests := s.requests ++ ls.flatMap fun l => refusalNotices l (some .store) (laneOf s l) } := by
  rw [foldl_eq_onLane (g := fun _ => lostLane) (h := fun l x => refusalNotices l (some .store) x) s
    (fun t l _ => by rw [loseToStore, refusedForRoom_countLane]; rfl), foldl_onLane hls]

/-! ## Placement -/

/-- The notices of placement's tests. -/
def allTestNotices (m : Media) (s : State) : List Notice :=
  (List.finRange 16).flatMap fun l => testNotices m s.time.tb l (laneOf s l)

/-- No lane passes (R58). -/
theorem place_of_none {m : Media} {s : State} (h : passingLanes m s = []) (p : PortId) :
    place m p s =
      countUnplaced m.flow
        { s with
          lanes := lanesWith (List.finRange 16) (fun _ => testedLane m s.time.tb) s
          requests := s.requests ++ allTestNotices m s } := by
  simp only [place, h, foldl_testCandidate, allTestNotices]

/-- Lanes pass: the allocation decides (R59). -/
theorem place_of_some {m : Media} {s : State} (h : passingLanes m s ≠ []) (p : PortId) :
    place m p s = allocateFor m p (passingLanes m s) ((List.finRange 16).foldl (testCandidate m) s) := by
  unfold place
  split
  · next h' => exact absurd h' h
  · rfl

/-- Two changes of the lanes in turn, the second of some of those that the first changes. -/
theorem lanesWith_lanesWith {f : LaneId → Lane → Lane} {s t : State} (ht : t.lanes = lanesWith (List.finRange 16) f s)
    (ls : List LaneId) (g : LaneId → Lane → Lane) :
    lanesWith ls g t = lanesWith (List.finRange 16) (fun l x => if l ∈ ls then g l (f l x) else f l x) s :=
  lanes_ext fun l => by
    simp only [lanesWith, Fin.getElem_fin, Vector.getElem_ofFn, laneOf_of_all_lanes ht, List.mem_finRange, if_true]

/-- The changes behind the tests, met by the lanes that pass as by lanes that nothing has tested. -/
theorem lanesWith_passing {m : Media} {s t : State} (ht : t.lanes = lanesWith (List.finRange 16) (fun _ => testedLane m s.time.tb) s)
    (g : Lane → Lane) :
    lanesWith (passingLanes m s) (fun _ => g) t =
      lanesWith (List.finRange 16) (fun l x => if l ∈ passingLanes m s then g x else testedLane m s.time.tb x) s := by
  rw [lanesWith_lanesWith ht]
  refine lanes_ext fun l => ?_
  simp only [lanesWith, Fin.getElem_fin, Vector.getElem_ofFn, List.mem_finRange, if_true]
  split
  · next hl => rw [testedLane_of_passes ((mem_passingLanes).mp hl)]
  · rfl

/-- Lanes pass and the store has room: the block is stored once and enters each of them (R59). -/
theorem place_of_room {m : Media} {s : State} (h : passingLanes m s ≠ [])
    (room : storeHasRoom s.store m.payload.length = true) (p : PortId) :
    place m p s =
      { s with
        store := storeBlock m.payload (passingLanes m s).length s.store
        lanes :=
          lanesWith (List.finRange 16)
            (fun l x => if l ∈ passingLanes m s then insertedLane m p (nextRef s.store) x else testedLane m s.time.tb x) s
        requests := s.requests ++ allTestNotices m s } := by
  rw [place_of_some h, allocateFor, foldl_testCandidate, if_pos room, foldl_insertAt (nodup_passingLanes m s),
    lanesWith_passing (m := m) (s := s) rfl]
  rfl

/-- Lanes pass and the store has no room (R53, R59). -/
theorem place_of_full {m : Media} {s : State} (h : passingLanes m s ≠ [])
    (full : storeHasRoom s.store m.payload.length = false) (p : PortId) :
    place m p s =
      { s with
        store := { s.store with fullFlag := true }
        lanes :=
          lanesWith (List.finRange 16)
            (fun l x => if l ∈ passingLanes m s then lostLane x else testedLane m s.time.tb x) s
        requests :=
          s.requests ++ allTestNotices m s ++ (if s.store.fullFlag then [] else [storeFullNotice s.store]) ++
            (passingLanes m s).flatMap fun l => refusalNotices l (some .store) (laneOf s l) } := by
  have hnotices {t : State} (ht : t.lanes = lanesWith (List.finRange 16) (fun _ => testedLane m s.time.tb) s) :
      ((passingLanes m s).flatMap fun l => refusalNotices l (some .store) (laneOf t l)) =
        (passingLanes m s).flatMap fun l => refusalNotices l (some .store) (laneOf s l) :=
    List.flatMap_congr fun l hl => by
      rw [laneOf_of_all_lanes ht, testedLane_of_passes ((mem_passingLanes).mp hl)]
  have hfull : ¬ storeHasRoom s.store m.payload.length = true := by simp [full]
  rw [place_of_some h, allocateFor, foldl_testCandidate, if_neg hfull, foldl_loseToStore (nodup_passingLanes m s),
    allocationFailed_eq, lanesWith_passing (m := m) (s := s) rfl, hnotices rfl]
  rfl

end Sys2Proof.Placement
end


section
/-! The classifier, the ports and the time base as elementary moves: a take with its placement, the watch sweep, the flow directives,
link events and reception, the tick. -/

namespace Sys2Proof.Elementary

open Sys2Proof.Machine Sys2Proof.Safety Sys2Proof.Placement

/-! ## Placement -/

/-- Lanes changed and requests made, each lane by a touch. -/
theorem moves_lanes {G : Scope} {s t : State} (ht : t = { s with lanes := t.lanes, requests := t.requests })
    (h : ∀ l, LaneTouch G.directives (laneOf s l) (laneOf t l)) : Moves G s t := by
  have hlanes : Move G s { s with lanes := t.lanes } := .lanes h
  refine Relation.ReflTransGen.tail (.single hlanes) (.beside ?_)
  rw [ht]
  rfl

/-- A lane that admits units is not IDLE. -/
theorem active_of_candidate {f : Word} {x : Lane} (h : isCandidate f x = true) : x.state ≠ .idle := by
  simp only [isCandidate, Bool.and_eq_true] at h
  obtain ⟨-, hadmits⟩ := h
  intro hidle
  rw [hidle] at hadmits
  cases hadmits

theorem laneTouch_testedLane {D : Prop} (m : Media) (tb : Tick) (x : Lane) : LaneTouch D x (testedLane m tb x) := by
  unfold testedLane
  split
  · next h => exact .marked (.inl (active_of_candidate h)) _ _ _ _
  · exact .same

theorem laneTouch_lostLane {D : Prop} {x : Lane} (active : x.state ≠ .idle) : LaneTouch D x (lostLane x) :=
  .marked (.inl active) _ _ _ _

theorem flowOk_unplaced {f : Word} {e : FlowEntry} (h : flowOk e) :
    flowOk (if e.flow = f then { e with counters := { e.counters with unplaced := bump e.counters.unplaced } } else e) := by
  split <;> exact h

theorem moves_loseToStore {G : Scope} {ls : List LaneId} (hls : ls.Nodup) {s : State}
    (active : ∀ l ∈ ls, (laneOf s l).state ≠ .idle) : Moves G s (ls.foldl loseToStore s) := by
  refine moves_lanes (by rw [foldl_loseToStore hls]) fun l => ?_
  have hlanes : (ls.foldl loseToStore s).lanes = lanesWith ls (fun _ => lostLane) s := by rw [foldl_loseToStore hls]
  rw [laneOf_of_lanes hlanes]
  split
  · next hl => exact laneTouch_lostLane (active l hl)
  · exact .same

theorem moves_allocationFailed {G : Scope} {m : Media} (good : G.media m) (s : State)
    (full : storeHasRoom s.store m.payload.length = false) : Moves G s (allocationFailed s) := by
  refine Relation.ReflTransGen.tail (.single (.filled good full)) (.beside ?_)
  rw [allocationFailed_eq]
  rfl

theorem laneOf_allocationFailed (s : State) (l : LaneId) : laneOf (allocationFailed s) l = laneOf s l := by
  rw [allocationFailed_eq]
  rfl

/-- Placement of a block (R56..R60). -/
theorem moves_place {G : Scope} {m : Media} (good : G.media m) (p : PortId) (s : State) : Moves G s (place m p s) := by
  have htests : Moves G s ((List.finRange 16).foldl (testCandidate m) s) :=
    moves_lanes (by rw [foldl_testCandidate]) fun l => by
      rw [laneOf_of_all_lanes (foldl_testCandidate_lanes m s)]
      exact laneTouch_testedLane _ _ _
  have hstore : ((List.finRange 16).foldl (testCandidate m) s).store = s.store := by rw [foldl_testCandidate]
  by_cases hnone : passingLanes m s = []
  · have hcount : place m p s = countUnplaced m.flow ((List.finRange 16).foldl (testCandidate m) s) := by
      simp only [place, hnone]
    rw [hcount]
    refine htests.tail (.table (.mapped (fun e => ?_) fun e => flowOk_unplaced))
    split <;> rfl
  · rw [place_of_some hnone, allocateFor]
    split
    · next room =>
      rw [← passingLanes_tested]
      refine htests.tail (.stored p room ?_)
      rwa [passingLanes_tested]
    · next full =>
      have hfailed := htests.trans (moves_allocationFailed good _ (by simpa using full))
      refine hfailed.trans (moves_loseToStore (nodup_passingLanes m s) fun l hl => ?_)
      rw [← passingLanes_tested] at hl
      have hpasses := (mem_passingLanes).mp hl
      simp only [lanePasses, Bool.and_eq_true] at hpasses
      rw [laneOf_allocationFailed]
      exact active_of_candidate hpasses.1

/-! ## Classification -/

/-- What every classification by a port of the entry's set leaves: a LIVE entry with a highest accepted sequence, marked (R25). -/
structure Classed (e x : FlowEntry) : Prop where
  flow : x.flow = e.flow
  live : x.state = .live
  high : x.high ≠ none
  mark : x.window.getLsbD 0 = true
  run : x.staleRun ≤ 7
  ports : x.ports = e.ports
  paths : x.paths = e.paths

theorem classed_first (q : Word) (e : FlowEntry) : Classed e (judgeFirst q e).entry :=
  ⟨rfl, rfl, by simp [judgeFirst, resync], by simp [judgeFirst, resync], by simp [judgeFirst, resync], rfl, rfl⟩

theorem classed_live {q h : Word} {disc : Bool} {e : FlowEntry} (live : e.state = .live) (high : e.high ≠ none)
    (mark : e.window.getLsbD 0 = true) (run : e.staleRun ≤ 7) : Classed e (judgeLive q disc h e).entry := by
  have hresync (cause : ResyncCause) : Classed e (judgeResync q cause e).entry :=
    ⟨rfl, live, by simp [judgeResync, resync], by simp [judgeResync, resync], by simp [judgeResync, resync], rfl, rfl⟩
  have hduplicate : Classed e (judgeDuplicate e).entry := ⟨rfl, live, high, mark, run, rfl, rfl⟩
  simp only [judgeLive]
  split
  · exact hduplicate
  · split
    · exact hduplicate
    · split
      · exact hresync .disc
      · split
        · exact ⟨rfl, live, by simp [judgeAhead], by simp [judgeAhead], by simp [judgeAhead], rfl, rfl⟩
        · split
          · exact ⟨rfl, live, high, by simp [judgeRecovered, mark], by simp [judgeRecovered], rfl, rfl⟩
          · unfold judgeStale
            split
            · exact hresync .staleRun
            · next hrun =>
              have hlimit : Config.staleRunLimit = 8 := rfl
              exact ⟨rfl, live, high, mark, by simp only; omega, rfl, rfl⟩

theorem classed_judge {e : FlowEntry} (h : flowOk e) (q : Word) (disc : Bool) (p : PortId) :
    Classed (evidence p e) (judge q disc (evidence p e)).entry := by
  obtain ⟨-, harmed, -, hmark, hrun, -, -, -⟩ := h
  unfold judge
  split
  · exact classed_first q _
  · exact classed_first q _
  · next hlive =>
    have hstate : e.state ≠ .armed := by
      have : e.state = .live := hlive
      simp [this]
    exact classed_live hlive (mt harmed.mpr hstate) (hmark hstate) hrun

theorem flowOk_judge {e : FlowEntry} {p : PortId} (hp : inSet e.ports p = true) (q : Word) (disc : Bool) (h : flowOk e) :
    flowOk (judge q disc (evidence p e)).entry := by
  have c := classed_judge h q disc p
  obtain ⟨hflow, -, -, -, -, -, ha, hb⟩ := h
  refine ⟨by rw [c.flow]; exact hflow, by simp [c.live, c.high], by simp [c.live], fun _ => c.mark, c.run, by simp [c.live], ?_, ?_⟩
  · rw [c.ports, c.paths]
    intro hnot
    cases p with
    | a => exact absurd hp (by simpa [evidence] using hnot)
    | b => exact ha hnot
  · rw [c.ports, c.paths]
    intro hnot
    cases p with
    | a => exact hb hnot
    | b => exact absurd hp (by simpa [evidence] using hnot)

theorem mem_of_findFlow {f : Word} {t : List FlowEntry} {e : FlowEntry} (h : findFlow f t = some e) : e ∈ t :=
  List.mem_of_find?_eq_some h

theorem flow_of_findFlow {f : Word} {t : List FlowEntry} {e : FlowEntry} (h : findFlow f t = some e) : e.flow = f := by
  simpa using List.find?_some h

theorem judge_flow (q : Word) (disc : Bool) (e : FlowEntry) : (judge q disc e).entry.flow = e.flow := by
  have hlive (h : Word) : (judgeLive q disc h e).entry.flow = e.flow := by
    simp only [judgeLive, judgeStale]
    repeat' split
    all_goals rfl
  unfold judge
  split
  · rfl
  · rfl
  · exact hlive _

/-- The classification of a block (R27). -/
theorem moves_classify {G : Scope} {m : Media} (good : G.media m) (p : PortId) (s : State) :
    Moves G s (classify m p s) := by
  unfold classify
  split
  · exact .single (.beside rfl)
  · next e he =>
    split
    · exact .single (.table (.replaced (mem_of_findFlow he) rfl fun h => h))
    · next hp =>
      have hin : inSet e.ports p = true := by simpa using hp
      have htable : Move G s (setTable (replaceFlow (judge m.seq m.disc (evidence p e)).entry s.classifier.table) s) :=
        .table (.replaced (mem_of_findFlow he) (judge_flow m.seq m.disc (evidence p e)) (flowOk_judge hin m.seq m.disc))
      have hjudged : Moves G s
          (requestAll (evidenceNotices p e ++ (judge m.seq m.disc (evidence p e)).notices)
            (setTable (replaceFlow (judge m.seq m.disc (evidence p e)).entry s.classifier.table) s)) :=
        .tail (.single htable) (.beside rfl)
      simp only
      split
      · exact hjudged.trans (moves_place good p _)
      · exact hjudged
      · exact hjudged

/-- TAKE (R23, R24). -/
theorem moves_takeBlock {G : Scope} {s : State} (good : ∀ p, ∀ m ∈ (portOf s p).buffer, G.media m) :
    Moves G s (takeBlock s) := by
  unfold takeBlock
  split
  · exact .refl
  · next p _ =>
    unfold takeFrom
    split
    · exact .refl
    · next m rest hbuf =>
      have hpop : Move G s (setPort p { portOf s p with buffer := rest } s) := by
        have := Move.port (G := G) (s := s) (PortMove.popped (x := portOf s p))
        rwa [hbuf, List.tail_cons] at this
      have hm : G.media m := good p m (by rw [hbuf]; exact List.mem_cons_self)
      have hserved : Move G (setPort p { portOf s p with buffer := rest } s)
          (setClassifier { s.classifier with lastServed := p } (setPort p { portOf s p with buffer := rest } s)) :=
        .beside rfl
      exact (Relation.ReflTransGen.tail (.single hpop) hserved).trans (moves_classify hm p _)

/-! ## The watch sweep -/

theorem sweepPath_of_down {x : Path} (h : x.up = false) (lapse : BitVec 8) : sweepPath lapse x = x := by
  simp [sweepPath, h]

theorem flowOk_sweepEntry {e : FlowEntry} (h : flowOk e) : flowOk (sweepEntry e).1 := by
  obtain ⟨hflow, harmed, hwindow, hmark, hrun, hsilent, ha, hb⟩ := h
  have hnewPath (lapse : BitVec 8) : sweepPath lapse newPath = newPath := sweepPath_of_down rfl lapse
  have ha' : inSet e.ports .a = false → sweepPath e.lapse e.paths.a = newPath := fun hn => by rw [ha hn, hnewPath]
  have hb' : inSet e.ports .b = false → sweepPath e.lapse e.paths.b = newPath := fun hn => by rw [hb hn, hnewPath]
  have swept : flowOk { e with
      paths := { a := sweepPath e.lapse e.paths.a, b := sweepPath e.lapse e.paths.b } } := by
    refine ⟨hflow, harmed, hwindow, hmark, hrun, fun hs => ?_, ha', hb'⟩
    obtain ⟨hda, hdb⟩ := hsilent hs
    exact ⟨by simp only [sweepPath_of_down hda, hda], by simp only [sweepPath_of_down hdb, hdb]⟩
  unfold sweepEntry
  split
  · exact ⟨hflow, harmed, hwindow, hmark, hrun, hsilent, ha, hb⟩
  · simp only
    split
    · exact swept
    · exact swept
    · next hlive =>
      have hnone : e.high ≠ none := by simp [← harmed, hlive]
      split
      · next hdown =>
        exact ⟨hflow, by simp [hnone], by simp, fun _ => hmark (by simp [hlive]), hrun, fun _ => hdown, ha', hb'⟩
      · split
        · exact swept
        · split <;> exact swept

theorem sweepEntry_flow (e : FlowEntry) : (sweepEntry e).1.flow = e.flow := by
  unfold sweepEntry
  simp only
  repeat' split
  all_goals rfl

/-- WATCH_SWEEP (R35..R37). -/
theorem moves_watchSweep {G : Scope} (s : State) : Moves G s (watchSweep s) := by
  unfold watchSweep
  split
  · exact .refl
  · have hcount : Move G s
        (setClassifier
          { s.classifier with
            sweepsDue := s.classifier.sweepsDue - 1
            sweepNumber := s.classifier.sweepNumber + 1 }
          s) := .beside rfl
    exact Relation.ReflTransGen.tail
      (Relation.ReflTransGen.tail (.single hcount)
        (.table (.mapped sweepEntry_flow fun _ => flowOk_sweepEntry))) (.beside rfl)

/-! ## Flow directives -/

theorem flowOk_changeFlow {a : FlowSetArgs} {e : FlowEntry} (h : flowOk e) : flowOk (changeFlow a e) := by
  obtain ⟨hflow, harmed, hwindow, hmark, hrun, hsilent, -, -⟩ := h
  have hdown {p : PortId} {x : Path} (hx : x.up = false) : (keptPath e.ports a.ports p x).up = false := by
    unfold keptPath
    split
    · exact hx
    · rfl
  have hout {p : PortId} {x : Path} (hp : inSet a.ports p = false) : keptPath e.ports a.ports p x = newPath := by
    simp [keptPath, hp]
  exact ⟨hflow, harmed, hwindow, hmark, hrun, fun hs => ⟨hdown (hsilent hs).1, hdown (hsilent hs).2⟩, hout, hout⟩

theorem moves_ownFlowSet {G : Scope} {a : FlowSetArgs} (valid : a.flow ≠ 0 ∧ a.flow ≠ 0xFFFF) (s : State) :
    Moves G s (ownFlowSet a s).state := by
  unfold ownFlowSet
  split
  · next e he => exact .single (.table (.replaced (mem_of_findFlow he) rfl flowOk_changeFlow))
  · next habsent =>
    split
    · next hroom => exact .single (.table (.inserted habsent hroom valid))
    · exact .refl

theorem moves_ownFlowClear {G : Scope} (f : Word) (s : State) : Moves G s (ownFlowClear f s).state := by
  unfold ownFlowClear
  split
  · exact .single (.table (.removed _))
  · exact .refl

theorem moves_ownFlowZero {G : Scope} (f : Word) (s : State) : Moves G s (ownFlowZero f s).state := by
  unfold ownFlowZero
  split
  · next e he => exact .single (.table (.replaced (mem_of_findFlow he) rfl fun h => h))
  · exact .refl

theorem valid_of_formFlowSet {ps : List Word} {a : FlowSetArgs} (h : formFlowSet ps = .ok a) :
    a.flow ≠ 0 ∧ a.flow ≠ 0xFFFF := by
  unfold formFlowSet at h
  split at h
  · next f p l =>
    cases hp : portSetParam p with
    | error st => simp [hp] at h
    | ok ports =>
      simp only [hp, inRange] at h
      split at h
      · next hgood =>
        cases h
        simp only [Bool.and_eq_true, flowValid, decide_eq_true_eq] at hgood
        exact hgood.1
      · cases h
  · cases h

/-! ## Ports -/

/-- A port changed, with offers and requests made. -/
theorem moves_port {G : Scope} {s t : State} {p : PortId} {y : Port} (h : PortMove (portOf s p) y)
    (ht : t = { setPort p y s with offers := t.offers, requests := t.requests }) : Moves G s t := by
  refine Relation.ReflTransGen.tail (.single (.port h)) (.beside ?_)
  rw [ht]
  rfl

/-- A block in reception abandoned (R11, R12, R18). -/
theorem abandonReception_eq (p : PortId) (s : State) :
    abandonReception p s =
      { s with
        ports :=
          setPerPort s.ports p
            { portOf s p with
              receiving := false
              counters := { (portOf s p).counters with truncated := bump (portOf s p).counters.truncated }
              errorFlag := true }
        requests := s.requests ++ portErrorNotice p (portOf s p) } := by
  simp only [abandonReception, portError_eq, portOf_setPort_same, setPort_ports, setPerPort_setPerPort]
  rfl

/-- The port after a block in reception, if there is one, is abandoned. -/
def abandonedPort (x : Port) : Port :=
  if x.receiving then
    { x with
      receiving := false
      counters := { x.counters with truncated := bump x.counters.truncated }
      errorFlag := true }
  else x

/-- Its notice. -/
def abandonNotice (p : PortId) (x : Port) : List Notice := if x.receiving then portErrorNotice p x else []

theorem setPerPort_portOf (p : PortId) (s : State) : setPerPort s.ports p (portOf s p) = s.ports := by
  cases p <;> rfl

theorem abandonIf_eq (p : PortId) (s : State) :
    (if (portOf s p).receiving then abandonReception p s else s) =
      { s with
        ports := setPerPort s.ports p (abandonedPort (portOf s p))
        requests := s.requests ++ abandonNotice p (portOf s p) } := by
  unfold abandonedPort abandonNotice
  split
  · exact abandonReception_eq p s
  · simp [setPerPort_portOf]

theorem portOf_withPort (p : PortId) (x : Port) (s : State) (ns : List Notice) :
    portOf { s with ports := setPerPort s.ports p x, requests := ns } p = x :=
  perPort_setPerPort_same s.ports p x

/-- LINK_GAIN in DOWN (R9). -/
theorem linkGain_of_down {p : PortId} {s : State} (h : (portOf s p).up = false) :
    linkGain p s =
      { s with ports := setPerPort s.ports p { portOf s p with up := true }, requests := s.requests ++ [.portUp p] } := by
  simp [linkGain, h, request, setRequests, setPort]

/-- LINK_LOSS in UP (R9, R11). -/
theorem linkLoss_of_up {p : PortId} {s : State} (h : (portOf s p).up = true) :
    linkLoss p s =
      { s with
        ports := setPerPort s.ports p { abandonedPort (portOf s p) with up := false }
        requests := s.requests ++ abandonNotice p (portOf s p) ++ [.portDown p] } := by
  simp only [linkLoss, h, if_true, abandonIf_eq, portOf_withPort]
  simp [request, setRequests, setPort]

/-- BLOCK_START in UP (R10). -/
theorem blockStart_of_up {p : PortId} {s : State} (h : (portOf s p).up = true) :
    blockStart p s =
      { s with
        ports := setPerPort s.ports p { abandonedPort (portOf s p) with receiving := true }
        requests := s.requests ++ abandonNotice p (portOf s p) } := by
  simp only [blockStart, h, if_true, abandonIf_eq, portOf_withPort]
  simp [setPort]

theorem moves_linkGain {G : Scope} (p : PortId) (s : State) : Moves G s (linkGain p s) := by
  by_cases h : (portOf s p).up = true
  · rw [linkGain, if_pos h]
  · rw [linkGain_of_down (by simpa using h)]
    exact moves_port (.link (up := true) (fun _ => rfl) (portOf s p).counters.truncated (portOf s p).errorFlag) rfl

theorem moves_linkLoss {G : Scope} (p : PortId) (s : State) : Moves G s (linkLoss p s) := by
  by_cases h : (portOf s p).up = true
  · rw [linkLoss_of_up h]
    refine moves_port (y := { abandonedPort (portOf s p) with up := false }) ?_ rfl
    unfold abandonedPort
    split
    · exact .link (by simp) _ true
    · next hr =>
      have hclosed : (portOf s p).receiving = false := by simpa using hr
      have := PortMove.link (x := portOf s p) (up := false) (receiving := (portOf s p).receiving) (by simp [hclosed])
        (portOf s p).counters.truncated (portOf s p).errorFlag
      exact this
  · rw [linkLoss, if_neg h]

theorem moves_blockStart {G : Scope} (p : PortId) (s : State) : Moves G s (blockStart p s) := by
  by_cases h : (portOf s p).up = true
  · rw [blockStart_of_up h]
    refine moves_port (y := { abandonedPort (portOf s p) with receiving := true }) ?_ rfl
    unfold abandonedPort
    split
    · exact .link (fun _ => h) _ true
    · exact .link (fun _ => h) (portOf s p).counters.truncated (portOf s p).errorFlag
  · rw [blockStart, if_neg h]

theorem moves_framingFault {G : Scope} (p : PortId) (s : State) : Moves G s (framingFault p s) := by
  unfold framingFault
  split
  · rw [abandonReception_eq]
    exact moves_port (.link (up := (portOf s p).up) (receiving := false) (by simp) _ true) rfl
  · exact .refl

/-! ## A block completed (R13..R16) -/

/-- A port with a block completed, counted under an outcome. -/
def completedPort (f : PortCounters → PortCounters) (x : Port) : Port :=
  { x with receiving := false, counters := f { x.counters with completed := bump x.counters.completed } }

theorem countPort_setPort (p : PortId) (f : PortCounters → PortCounters) (x : Port) (s : State) :
    countPort p f (setPort p x s) = setPort p { x with counters := f x.counters } s := by
  simp only [countPort, portOf_setPort_same]
  simp only [setPort, setPerPort_setPerPort]

theorem portError_setPort (p : PortId) (x : Port) (s : State) :
    portError p (setPort p x s) =
      { s with
        ports := setPerPort s.ports p { x with errorFlag := true }, requests := s.requests ++ portErrorNotice p x } := by
  simp only [portError_eq, portOf_setPort_same, setPort_ports, setPerPort_setPerPort]
  rfl

section Completed

variable {p : PortId} {ws : List Word} {s : State} (up : (portOf s p).up = true)
include up

/-- A block completed in UP is checked on the port that has counted it (R14). -/
theorem blockComplete_of_up :
    blockComplete p ws s = checkCompleted p ws (setPort p (completedPort id (portOf s p)) s) := if_pos up

/-- A completed block that fails a check (R13, R18). -/
theorem blockComplete_bad {f : PortCounters → PortCounters}
    (h : ∀ t, checkCompleted p ws t = portError p (countPort p f t)) :
    blockComplete p ws s =
      { s with
        ports := setPerPort s.ports p (portAfterBadBlock f (portOf s p))
        requests := s.requests ++ portErrorNotice p (portOf s p) } := by
  rw [blockComplete_of_up up, h, countPort_setPort, portError_setPort]
  rfl

/-- A good control block (R15). -/
theorem blockComplete_control {o : Offer} (h : ∀ t, checkCompleted p ws t = receiveControl p o t) :
    blockComplete p ws s =
      { s with
        ports := setPerPort s.ports p (completedPort (fun c => { c with controlGood := bump c.controlGood }) (portOf s p))
        offers := s.offers ++ [o] } := by
  rw [blockComplete_of_up up, h, receiveControl, countPort_setPort]
  rfl

/-- A good media block with a place in the receive buffer (R16). -/
theorem blockComplete_media {m : Media} (h : ∀ t, checkCompleted p ws t = receiveMedia p m t)
    (room : (portOf s p).buffer.length < 2) :
    blockComplete p ws s =
      { s with
        ports :=
          setPerPort s.ports p
            { completedPort (fun c => { c with mediaGood := bump c.mediaGood }) (portOf s p) with
              buffer := (portOf s p).buffer ++ [m] } } := by
  rw [blockComplete_of_up up, h, receiveMedia, countPort_setPort]
  simp only [portOf_setPort_same]
  rw [if_pos (by exact room)]
  simp only [setPort, setPerPort_setPerPort]
  rfl

/-- A good media block that finds the receive buffer full (R16, R18). -/
theorem blockComplete_overflow {m : Media} (h : ∀ t, checkCompleted p ws t = receiveMedia p m t)
    (full : 2 ≤ (portOf s p).buffer.length) :
    blockComplete p ws s =
      { s with
        ports :=
          setPerPort s.ports p
            { completedPort (fun c => { c with mediaGood := bump c.mediaGood, overflow := bump c.overflow }) (portOf s p) with
              errorFlag := true }
        requests := s.requests ++ portErrorNotice p (portOf s p) } := by
  rw [blockComplete_of_up up, h, receiveMedia, countPort_setPort]
  simp only [portOf_setPort_same]
  rw [if_neg (Nat.not_lt.mpr (by exact full)), countPort_setPort, portError_setPort]
  rfl

end Completed

/-- What the checks of a completed block can say (R13). -/
theorem checkCompleted_cases (ws : List Word) :
    (∃ f : PortCounters → PortCounters, (∀ c, OutcomeCounted c (f c)) ∧ (∀ c, (f c).overflow = c.overflow) ∧
        ∀ p t, checkCompleted p ws t = portError p (countPort p f t)) ∨
      (goodMedia (mediaOf ws) ∧ ∀ p t, checkCompleted p ws t = receiveMedia p (mediaOf ws) t) ∨
      ∀ p t, checkCompleted p ws t = receiveControl p { port := p, seq := wordAt ws 2, payload := payloadOf ws } t := by
  unfold checkCompleted
  by_cases hl : lengthGood ws = false
  · exact .inl ⟨_, fun _ => .length, fun _ => rfl, fun p t => if_pos hl⟩
  by_cases hc : crcGood ws = false
  · exact .inl ⟨_, fun _ => .crc, fun _ => rfl, fun p t => by rw [if_neg hl, if_pos hc]⟩
  by_cases hm : mediaGood ws = true
  · refine .inr (.inl ⟨⟨?_, ?_⟩, fun p t => by rw [if_neg hl, if_neg hc, if_pos hm]⟩)
    · have hlen : lengthGood ws = true := by simpa using hl
      obtain ⟨-, hfits, -⟩ := of_decide_eq_true hlen
      exact (List.length_take_le _ _).trans hfits
    · simp only [mediaGood, decide_eq_true_eq] at hm
      exact hm.2
  by_cases hk : controlGood ws = true
  · exact .inr (.inr fun p t => by rw [if_neg hl, if_neg hc, if_neg hm, if_pos hk])
  · exact .inl ⟨_, fun _ => .kind, fun _ => rfl, fun p t => by rw [if_neg hl, if_neg hc, if_neg hm, if_neg hk]⟩

theorem moves_blockComplete {G : Scope} (p : PortId) (ws : List Word) (s : State) :
    Moves G s (blockComplete p ws s) := by
  by_cases up : (portOf s p).up = true
  · rcases checkCompleted_cases ws with ⟨f, hf, hover, h⟩ | ⟨good, h⟩ | h
    · rw [blockComplete_bad up (h p)]
      refine moves_port (y := portAfterBadBlock f (portOf s p)) ?_ rfl
      have := PortMove.completed (x := portOf s p) (ms := []) (hf _) (by simp) (by simp)
        (f { (portOf s p).counters with completed := bump (portOf s p).counters.completed }).overflow true
      rwa [List.append_nil] at this
    · by_cases room : (portOf s p).buffer.length < 2
      · rw [blockComplete_media up (h p) room]
        exact moves_port (.completed .media (by simp; omega) (by simpa using good) (portOf s p).counters.overflow
          (portOf s p).errorFlag) rfl
      · rw [blockComplete_overflow up (h p) (by omega)]
        refine moves_port (y := { completedPort _ _ with errorFlag := true }) ?_ rfl
        have := PortMove.completed (x := portOf s p) (ms := []) .media (by simp) (by simp)
          (bump (portOf s p).counters.overflow) true
        rwa [List.append_nil] at this
    · rw [blockComplete_control up (h p)]
      refine moves_port (y := completedPort _ _) ?_ rfl
      have := PortMove.completed (x := portOf s p) (ms := []) .control (by simp) (by simp)
        (portOf s p).counters.overflow (portOf s p).errorFlag
      rwa [List.append_nil] at this
  · rw [blockComplete, if_neg up]

/-! ## The tick -/

/-- TB_TICK (R63). -/
theorem moves_tick {G : Scope} (clock : G.clock) (s : State) : Moves G s (tick s) := by
  have htime : Move G s (setTime { s.time with tb := s.time.tb + 1 } s) := .ticked clock
  have hsweep : Move G (setTime { s.time with tb := s.time.tb + 1 } s)
      (setClassifier (tickSweep s.classifier) (setTime { s.time with tb := s.time.tb + 1 } s)) := .beside rfl
  refine Relation.ReflTransGen.tail (Relation.ReflTransGen.tail (.single htime) hsweep) (.lanes fun l => ?_)
  simpa [laneOf] using LaneTouch.aged (D := G.directives) (x := laneOf s l)

end Sys2Proof.Elementary
end


section
/-! What the service of a directive by its owner does, as elementary moves, and how many result words it gives; the expiries of
scheduled directives. -/

namespace Sys2Proof.Elementary

open Sys2Proof.Machine Sys2Proof.Safety

/-! ## Lane directives -/

theorem moves_updateLane {G : Scope} {l : LaneId} {r : Lane × List Effect} {s : State}
    (h : LaneDrop G.directives s.time (laneOf s l) r.1 r.2) : Moves G s (updateLane l r s) := .single (.drop h)

theorem flow_of_formLaneSource {ps : List Word} {a : LaneSourceArgs} (h : formLaneSource ps = .ok a) : a.flow ≠ 0xFFFF := by
  unfold formLaneSource at h
  split at h
  · next lane f c =>
    cases hl : laneParam lane with
    | error st => simp [hl] at h
    | ok l =>
      simp only [hl, inRange] at h
      split at h
      · next hgood =>
        cases h
        exact (of_decide_eq_true hgood).1
      · cases h
  · cases h

theorem config_of_formLaneSet {ps : List Word} {l : LaneId} {c : LaneConfig} (h : formLaneSet ps = .ok (l, c)) :
    configValid c = true := by
  unfold formLaneSet at h
  split at h
  · next lane _ _ _ _ _ _ _ _ _ _ _ _ =>
    cases hl : laneParam lane with
    | error st => simp [hl] at h
    | ok k =>
      simp only [hl, inRange] at h
      split at h
      · next hgood => cases h; exact hgood
      · cases h
  · cases h

theorem moves_ownLaneSet {G : Scope} (directed : G.directives) {c : LaneConfig} (valid : configValid c = true) (l : LaneId) (s : State) :
    Moves G s (ownLaneSet l c s).state := by
  unfold ownLaneSet
  split
  · next idle => exact .single (.setLane (.configured directed idle valid))
  · exact .refl

theorem moves_ownLaneSource {G : Scope} (directed : G.directives) {a : LaneSourceArgs} (valid : a.flow ≠ 0xFFFF) (s : State) :
    Moves G s (ownLaneSource a s).state := by
  unfold ownLaneSource
  by_cases hcut : a.cut = true
  · exact moves_updateLane (.cut directed hcut valid)
  · have hmoved : switchSource a (laneOf s a.lane) =
        ({ laneOf s a.lane with config := { (laneOf s a.lane).config with source := a.flow } }, []) := by
      simp [switchSource, hcut]
    rw [done_state, hmoved]
    exact .single (.setLane (.sourced directed valid))

theorem moves_ownStart {G : Scope} (directed : G.directives) (l : LaneId) (anchor : Tick) (s : State) : Moves G s (ownStart l anchor s).state := by
  unfold ownStart
  split
  · exact .refl
  · next h => exact moves_updateLane (.started directed l h)

theorem moves_ownHalt {G : Scope} (l : LaneId) (s : State) : Moves G s (ownHalt l s).state :=
  moves_updateLane (.halted l)

theorem moves_ownCommand {G : Scope} (l : LaneId) (c : Command) (s : State) :
    Moves G s (ownCommand l c s).state := by
  unfold ownCommand
  split
  · exact .refl
  · next h => exact .single (.setLane (.commanded h))

/-! ## The time base -/

theorem moves_ownTimeSet {G : Scope} (directed : G.directives) (v : Tick) (s : State) : Moves G s (ownTimeSet v s).state := by
  unfold ownTimeSet
  split
  · next idle => exact .tail (.single (.timeSet directed v idle)) (.beside rfl)
  · exact .refl

theorem range_of_formTimeAdjust {ps : List Word} {delta : Tick} (h : formTimeAdjust ps = .ok delta) :
    -16777216 ≤ delta.toInt ∧ delta.toInt ≤ 16777215 := by
  unfold formTimeAdjust at h
  split at h
  · simp only [inRange] at h
    split at h
    · next hgood => cases h; exact of_decide_eq_true hgood
    · cases h
  · cases h

theorem moves_ownTimeAdjust {G : Scope} (clock : G.clock) {delta : Tick} (range : -16777216 ≤ delta.toInt ∧ delta.toInt ≤ 16777215)
    (s : State) : Moves G s (ownTimeAdjust delta s).state := by
  unfold ownTimeAdjust
  split
  · exact .refl
  · next hset =>
    split
    · exact .refl
    · next hguard =>
      have hlanes : Move G s (mapLanes (fun _ x => reanchor delta x) s) :=
        .lanes fun l => by simpa [laneOf] using LaneTouch.reanchored (x := laneOf s l) delta
      have htime : Move G (mapLanes (fun _ x => reanchor delta x) s)
          (setTime { s.time with tb := s.time.tb + delta } (mapLanes (fun _ x => reanchor delta x) s)) :=
        .adjusted clock (by simpa using hset) (by simpa [guardRefuses] using hguard) range.1 range.2
      exact .tail (.tail (.single hlanes) htime) (.beside rfl)

/-! ## Expiry -/

theorem moves_takeHead {G : Scope} (clock : G.clock) (late : Bool) (s : State) : Moves G s (takeHead late s) := by
  unfold takeHead
  split
  · exact .refl
  · next h => exact .tail (.single (.expiring clock late h)) (.beside rfl)

/-- An owner behind a form stage that refuses by itself. -/
theorem moves_afterForm {G : Scope} {α : Type} {form : Except Status α} {owner : α → Answer} {s : State}
    (h : ∀ x, form = .ok x → Moves G s (owner x).state) : Moves G s (afterForm form owner s).state := by
  cases form with
  | error st => exact .refl
  | ok x => exact h x rfl

/-- The service of a scheduled directive by its owner (R170). -/
theorem moves_serveScheduled {G : Scope} (directed : G.directives) (clock : G.clock) (d : Directive) (ps : List Word) (s : State) :
    Moves G s (serveScheduled d ps s).state := by
  unfold serveScheduled
  split
  case h_1 => exact moves_afterForm fun a h => moves_ownFlowSet (valid_of_formFlowSet h) s
  case h_2 => exact moves_afterForm fun f _ => moves_ownFlowClear f s
  case h_3 => exact moves_afterForm fun a h => moves_ownLaneSource directed (flow_of_formLaneSource h) s
  case h_4 => exact moves_afterForm fun a _ => moves_ownStart directed a.1 a.2 s
  case h_5 => exact moves_afterForm fun l _ => moves_ownHalt l s
  case h_11 => exact moves_afterForm fun a _ => moves_ownCommand a.1 _ s
  case h_12 => exact moves_afterForm fun v h => moves_ownTimeAdjust clock (range_of_formTimeAdjust h) s
  case h_13 => exact .refl
  all_goals exact moves_afterForm fun l _ => moves_ownCommand l _ s

theorem moves_endExpiry {G : Scope} (directed : G.directives) (clock : G.clock) (x : ExpiryInService) (s : State) : Moves G s (endExpiry x s) := by
  have hanswer : Moves G s (ownerAnswer x.entry s).state :=
    (Relation.ReflTransGen.single (.answered clock)).trans (moves_serveScheduled directed clock _ _ _)
  exact hanswer.tail (.beside rfl)

theorem moves_overdueWalk {G : Scope} (directed : G.directives) (clock : G.clock) (n : Nat) (s : State) : Moves G s (overdueWalk n s) := by
  induction n generalizing s with
  | zero => exact .single (.overdue clock 0)
  | succ n ih =>
    unfold overdueWalk
    split
    · exact .single (.overdue clock 0)
    · exact moves_takeHead clock true s
    · exact ((moves_takeHead clock true s).trans (moves_endExpiry directed clock _ _)).trans (ih _)

theorem moves_finishExpiry {G : Scope} (directed : G.directives) (clock : G.clock) (x : ExpiryInService) (s : State) : Moves G s (finishExpiry x s) := by
  have hended : Moves G s (if adjustAccepted x.entry s then sendOverdue (endExpiry x s) else endExpiry x s) := by
    split
    · exact (moves_endExpiry directed clock x s).tail (.overdue clock _)
    · exact moves_endExpiry directed clock x s
  have hwalked {t : State} (h : Moves G s t) : Moves G s (if listHeld t then walkOn t else t) := by
    split
    · exact h.trans (moves_overdueWalk directed clock _ _)
    · exact h
  exact hwalked hended

theorem moves_expireDue {G : Scope} (directed : G.directives) (clock : G.clock) (n : Nat) (s : State) : Moves G s (expireDue n s) := by
  induction n generalizing s with
  | zero => exact .refl
  | succ n ih =>
    unfold expireDue
    split
    · split
      · exact .refl
      · exact moves_takeHead clock false s
      · exact ((moves_takeHead clock false s).trans (moves_finishExpiry directed clock _ _)).trans (ih _)
    · exact .refl

theorem moves_expiry {G : Scope} (directed : G.directives) (clock : G.clock) (s : State) : Moves G s (expiry s) := by
  unfold expiry
  split
  · split
    · exact .refl
    · exact (moves_finishExpiry directed clock _ s).trans (moves_expireDue directed clock _ _)
  · exact moves_expireDue directed clock _ _

theorem moves_overdueRequest {G : Scope} (directed : G.directives) (clock : G.clock) (s : State) : Moves G s (overdueRequest s) := by
  unfold overdueRequest
  split
  · split
    · exact (moves_endExpiry directed clock _ s).trans (moves_overdueWalk directed clock _ _)
    · exact .refl
  · split
    · exact moves_overdueWalk directed clock _ _
    · exact .refl

theorem moves_afterService {G : Scope} (directed : G.directives) (clock : G.clock) (s : State) : Moves G s (afterService s) := by
  unfold afterService
  split
  · next x _ =>
    have hbare : Move G s (setSurroundings { s.surroundings with answers := [] } s) := .beside rfl
    have hended : Moves G (setSurroundings { s.surroundings with answers := [] } s)
        ((if x.late then overdueRequest else expiry) (setSurroundings { s.surroundings with answers := [] } s)) := by
      split
      · exact moves_overdueRequest directed clock _
      · exact moves_expiry directed clock _
    exact ((Relation.ReflTransGen.single hbare).trans hended).tail (.beside rfl)
  · exact .refl

/-! ## Services -/

/-- What the service of a directive may leave of s: moves of the part's blocks, an adjust of the time base and what it starts, or a new group address or notice mask (R135, R184). -/
inductive Served (G : Media → Prop) (s : State) : State → Prop
  | moved {t : State} (h : ∀ C, Moves { media := G, directives := True, clock := C } s t) : Served G s t
  | adjusted {delta : Tick} (range : -16777216 ≤ delta.toInt ∧ delta.toInt ≤ 16777215) :
    Served G s (afterGuard (withOverdue (ownTimeAdjust delta s))).state
  | grouped (g : Option (BitVec 8)) : Served G s (setControl { s.control with group := g } s)
  | masked (m : BitVec 8) : Served G s (setReports { s.reports with mask := m } s)

/-- A service: its result words fit the room, and what it leaves (R131, R141). -/
structure Service (G : Media → Prop) (s : State) (room : Nat) (a : Answer) : Prop where
  fits : a.results.length ≤ room
  served : Served G s a.state

theorem Service.refuse {G : Media → Prop} (st : Status) (s : State) (room : Nat) : Service G s room (refuse st s) :=
  ⟨Nat.zero_le _, .moved fun _ => .refl⟩

theorem Service.readOut {G : Media → Prop} (room : Nat) (ws : List Word) (s : State) :
    Service G s room (readOut room ws s) := by
  unfold Machine.readOut
  split
  · next h => exact ⟨h, .moved fun _ => .refl⟩
  · exact .refuse _ s room

theorem Service.afterForm {G : Media → Prop} {α : Type} {form : Except Status α} {owner : α → Answer} {s : State} {room : Nat}
    (h : ∀ x, form = .ok x → Service G s room (owner x)) : Service G s room (afterForm form owner s) := by
  cases form with
  | error st => exact .refuse st s room
  | ok x => exact h x rfl

/-- An owner that gives no result words. -/
theorem Service.of_moves {G : Media → Prop} {s : State} {room : Nat} {a : Answer} (h : a.results = [])
    (moves : ∀ C, Moves { media := G, directives := True, clock := C } s a.state) : Service G s room a :=
  ⟨by simp [h], .moved moves⟩

theorem service_echo {G : Media → Prop} (ps : List Word) (room : Nat) (s : State) : Service G s room (serveEcho ps room s) :=
  .readOut room ps s

theorem service_groupSet {G : Media → Prop} (ps : List Word) (room : Nat) (s : State) :
    Service G s room (serveGroupSet ps room s) :=
  .afterForm fun g _ => ⟨Nat.zero_le _, .grouped g⟩

theorem service_noticeMask {G : Media → Prop} (ps : List Word) (room : Nat) (s : State) :
    Service G s room (serveNoticeMask ps room s) := by
  refine .afterForm fun w _ => ?_
  unfold ownNoticeMask
  split
  · exact .refuse _ s room
  · next h => exact ⟨Nat.one_le_iff_ne_zero.mpr h, .masked _⟩

theorem service_flowSet {G : Media → Prop} (ps : List Word) (room : Nat) (s : State) :
    Service G s room (serveFlowSet ps room s) :=
  .afterForm fun a h => .of_moves (by unfold ownFlowSet; split <;> (try split) <;> rfl)
    (fun _ => moves_ownFlowSet (valid_of_formFlowSet h) s)

theorem service_flowClear {G : Media → Prop} (ps : List Word) (room : Nat) (s : State) :
    Service G s room (serveFlowClear ps room s) :=
  .afterForm fun f _ => .of_moves (by unfold ownFlowClear; split <;> rfl) (fun _ => moves_ownFlowClear f s)

theorem service_flowZero {G : Media → Prop} (ps : List Word) (room : Nat) (s : State) :
    Service G s room (serveFlowZero ps room s) :=
  .afterForm fun f _ => .of_moves (by unfold ownFlowZero; split <;> rfl) (fun _ => moves_ownFlowZero f s)

theorem service_flowRead {G : Media → Prop} (ps : List Word) (room : Nat) (s : State) :
    Service G s room (serveFlowRead ps room s) := by
  refine .afterForm fun f _ => ?_
  unfold ownFlowRead
  split
  · exact .readOut _ _ s
  · exact .refuse _ s room

theorem service_flowList {G : Media → Prop} (ps : List Word) (room : Nat) (s : State) :
    Service G s room (serveFlowList ps room s) := .afterForm fun _ _ => .readOut _ _ s

theorem service_laneSet {G : Media → Prop} (ps : List Word) (room : Nat) (s : State) :
    Service G s room (serveLaneSet ps room s) :=
  .afterForm fun a h => .of_moves (by unfold ownLaneSet; split <;> rfl) (fun _ => moves_ownLaneSet trivial (config_of_formLaneSet h) a.1 s)

theorem service_laneSource {G : Media → Prop} (ps : List Word) (room : Nat) (s : State) :
    Service G s room (serveLaneSource ps room s) :=
  .afterForm fun _ h => .of_moves rfl (fun _ => moves_ownLaneSource trivial (flow_of_formLaneSource h) s)

theorem service_laneRead {G : Media → Prop} (ps : List Word) (room : Nat) (s : State) :
    Service G s room (serveLaneRead ps room s) := .afterForm fun _ _ => .readOut _ _ s

theorem service_lanePeek {G : Media → Prop} (ps : List Word) (room : Nat) (s : State) :
    Service G s room (serveLanePeek ps room s) := .afterForm fun _ _ => .readOut _ _ s

theorem service_laneZero {G : Media → Prop} (ps : List Word) (room : Nat) (s : State) :
    Service G s room (serveLaneZero ps room s) :=
  .afterForm fun _ _ => .of_moves rfl (fun _ => .single (.setLane (.marked (.inr trivial) _ _ _ _)))

theorem service_start {G : Media → Prop} (ps : List Word) (room : Nat) (s : State) :
    Service G s room (serveStart ps room s) :=
  .afterForm fun a _ => .of_moves (by unfold ownStart; split <;> rfl) (fun _ => moves_ownStart trivial a.1 a.2 s)

theorem service_halt {G : Media → Prop} (ps : List Word) (room : Nat) (s : State) :
    Service G s room (serveHalt ps room s) := .afterForm fun l _ => .of_moves rfl (fun _ => moves_ownHalt l s)

theorem results_ownCommand (l : LaneId) (c : Command) (s : State) : (ownCommand l c s).results = [] := by
  unfold ownCommand
  split <;> rfl

theorem service_command {G : Media → Prop} (c : Command) (ps : List Word) (room : Nat) (s : State) :
    Service G s room (serveCommand c ps room s) :=
  .afterForm fun l _ => .of_moves (results_ownCommand l c s) (fun _ => moves_ownCommand l c s)

theorem service_stop {G : Media → Prop} (ps : List Word) (room : Nat) (s : State) :
    Service G s room (serveStop ps room s) :=
  .afterForm fun a _ => .of_moves (results_ownCommand a.1 _ s) (fun _ => moves_ownCommand a.1 _ s)

theorem service_timeSet {G : Media → Prop} (ps : List Word) (room : Nat) (s : State) :
    Service G s room (serveTimeSet ps room s) :=
  .afterForm fun v _ => .of_moves (by unfold ownTimeSet; split <;> rfl) (fun _ => moves_ownTimeSet trivial v s)

theorem results_ownTimeAdjust (delta : Tick) (s : State) : (ownTimeAdjust delta s).results = [] := by
  unfold ownTimeAdjust
  split
  · rfl
  · split <;> rfl

theorem service_timeAdjust {G : Media → Prop} (ps : List Word) (room : Nat) (s : State) :
    Service G s room (serveTimeAdjust ps room s) := by
  refine .afterForm fun v h => ⟨?_, .adjusted (range_of_formTimeAdjust h)⟩
  have hresults : (withOverdue (ownTimeAdjust v s)).results = [] := by
    unfold withOverdue
    split <;> exact results_ownTimeAdjust v s
  have hguard : (afterGuard (withOverdue (ownTimeAdjust v s))).results = [] := by
    unfold afterGuard
    split <;> exact hresults
  simp [hguard]

/-- A TIME_ADJUST and what it starts: the look at the head behind its guard's refusal (R68..R70, R171). -/
theorem moves_adjusted {G : Scope} (directed : G.directives) (clock : G.clock) {delta : Tick}
    (range : -16777216 ≤ delta.toInt ∧ delta.toInt ≤ 16777215) (s : State) :
    Moves G s (afterGuard (withOverdue (ownTimeAdjust delta s))).state := by
  have hsent : Moves G s (withOverdue (ownTimeAdjust delta s)).state := by
    unfold withOverdue
    split
    · exact (moves_ownTimeAdjust clock range s).tail (.overdue clock _)
    · exact moves_ownTimeAdjust clock range s
  unfold afterGuard
  split
  · exact hsent.trans (moves_expireDue directed clock _ _)
  · exact hsent

theorem service_timeRead {G : Media → Prop} (ps : List Word) (room : Nat) (s : State) :
    Service G s room (serveTimeRead ps room s) := .afterForm fun _ _ => .readOut _ _ s

theorem service_at {G : Media → Prop} (ps : List Word) (room : Nat) (s : State) :
    Service G s room (serveAt ps room s) := by
  refine .afterForm fun a _ => ?_
  unfold ownAt
  split
  · exact .refuse _ s room
  · next hpasses =>
    split
    · exact .refuse _ s room
    · next hnames =>
      split
      · exact .refuse _ s room
      · next hroom => exact ⟨Nat.one_le_iff_ne_zero.mpr hroom, .moved fun _ => (.single (.scheduled trivial hpasses hnames))⟩

theorem service_cancel {G : Media → Prop} (ps : List Word) (room : Nat) (s : State) :
    Service G s room (serveCancel ps room s) := by
  refine .afterForm fun n _ => ?_
  unfold ownCancel
  split
  · split
    · exact .refuse _ s room
    · next hroom =>
      exact ⟨Nat.one_le_iff_ne_zero.mpr hroom, .moved fun _ => (.single (.cancelled trivial (List.nil_sublist _)))⟩
  · split
    · exact .refuse _ s room
    · split
      · exact .refuse _ s room
      · next hroom =>
        exact ⟨Nat.one_le_iff_ne_zero.mpr hroom, .moved fun _ => (.single (.cancelled trivial List.filter_sublist))⟩

theorem service_sdlRead {G : Media → Prop} (ps : List Word) (room : Nat) (s : State) :
    Service G s room (serveSdlRead ps room s) := .afterForm fun _ _ => .readOut _ _ s

end Sys2Proof.Elementary
end


section
/-! What a command can do, once for all commands: elementary moves of the part's blocks, or a step of the control unit or of the report
generator. -/

namespace Sys2Proof.Elementary

open Sys2Proof.Machine Sys2Proof.Safety

/-- The directives whose owners are asked in turn, with their owners (R143, R146). -/
inductive Asks : Envelope → Owners → Prop
  | unitRead : Asks (tableEnvelope .unitRead []) unitOwners
  | portRead {ps : List Word} {p : PortId} (names : formPort ps = .ok p) : Asks (tableEnvelope .portRead ps) (portReadOwners p)
  | portZero {ps : List Word} {p : PortId} (names : formPort ps = .ok p) : Asks (tableEnvelope .portZero ps) (portZeroOwners p)

/-- A directive answered in the step that issues it (R129): no owners are asked in turn, and it is no RESTART. -/
structure Immediate (e : Envelope) : Prop where
  no_owners : ∀ o, ¬ Asks e o
  no_restart : ∀ scope, e ≠ restartEnvelope scope

theorem directiveCode_injective : Function.Injective directiveCode := fun d d' h =>
  Option.some.inj (by rw [← directiveOf_directiveCode d, ← directiveOf_directiveCode d', h])

/-- A directive of another code is answered at once. -/
theorem immediate_of_code {e : Envelope} (h : ∀ d ∈ [Directive.unitRead, .portRead, .portZero, .restart], e.code ≠ directiveCode d) :
    Immediate e := by
  refine ⟨fun o ho => ?_, fun scope heq => ?_⟩
  · cases ho with
    | unitRead => exact h .unitRead (by simp) rfl
    | portRead => exact h .portRead (by simp) rfl
    | portZero => exact h .portZero (by simp) rfl
  · exact h .restart (by simp) (by rw [heq]; rfl)

theorem immediate_of_directive {d : Directive} (h : d ∉ [Directive.unitRead, .portRead, .portZero, .restart]) (ps : List Word) :
    Immediate { code := directiveCode d, params := ps } :=
  immediate_of_code fun _ hd heq => h (directiveCode_injective heq ▸ hd)

/-- UNIT_READ, PORT_READ or PORT_ZERO with parameters that their forms refuse. -/
theorem immediate_of_formFailure {d : Directive} {ps : List Word}
    (h : (d = .unitRead ∧ ps ≠ []) ∨ ((d = .portRead ∨ d = .portZero) ∧ ∀ p, formPort ps ≠ .ok p)) :
    Immediate (tableEnvelope d ps) := by
  have hcode {d' : Directive} {ps' : List Word} (heq : tableEnvelope d ps = tableEnvelope d' ps') : d = d' ∧ ps = ps' := by
    rw [tableEnvelope, tableEnvelope, Envelope.mk.injEq] at heq
    exact ⟨directiveCode_injective heq.1, heq.2⟩
  refine ⟨fun o ho => ?_, fun scope heq => ?_⟩
  · generalize he : tableEnvelope d ps = e at ho
    cases ho with
    | unitRead =>
      obtain ⟨rfl, rfl⟩ := hcode he
      simp at h
    | @portRead ps' p names =>
      obtain ⟨rfl, rfl⟩ := hcode he
      rcases h with ⟨h, -⟩ | ⟨-, h⟩
      · cases h
      · exact h p names
    | @portZero ps' p names =>
      obtain ⟨rfl, rfl⟩ := hcode he
      rcases h with ⟨h, -⟩ | ⟨-, h⟩
      · cases h
      · exact h p names
  · obtain ⟨rfl, -⟩ := hcode (d' := .restart) heq
    simp at h

/-- A code outside the table. -/
theorem immediate_of_unknown {code : BitVec 8} {ps : List Word} (h : directiveOf code = none) :
    Immediate { code := code, params := ps } :=
  immediate_of_code fun d _ heq => by
    have hd : directiveOf code = some d := (congrArg directiveOf heq).trans (directiveOf_directiveCode d)
    rw [h] at hd
    cases hd

/-- RESTART with parameters that name no scope. -/
theorem immediate_of_formRestart {ps : List Word} {st : Status} (h : formRestart ps = .error st) :
    Immediate (tableEnvelope .restart ps) := by
  refine ⟨fun o ho => ?_, fun scope heq => ?_⟩
  · generalize he : tableEnvelope .restart ps = e at ho
    have hcode : e.code = directiveCode .restart := by rw [← he]; rfl
    cases ho with
    | unitRead => exact absurd hcode (by decide)
    | portRead => exact absurd (directiveCode_injective (a₁ := .portRead) hcode) (by decide)
    | portZero => exact absurd (directiveCode_injective (a₁ := .portZero) hcode) (by decide)
  · have hps : ps = [scopeCode scope] := congrArg Envelope.params heq
    rw [hps] at h
    cases scope <;> cases h

/-- What a command leaves of s. -/
inductive Commanded (G : Media → Prop) (s : State) : State → Prop
  | reset (straps : BitVec 6) : Commanded G s (hardReset straps s)
  | event {t : State} (h : ∀ D C, Moves { media := G, directives := D, clock := C } s t) : Commanded G s t
  | ticked : Commanded G s (tick s)
  | expired : Commanded G s (expiry s)
  | walked : Commanded G s (overdueRequest s)
  | offered (o : Offer) : Commanded G s (serveOffer o s)
  | started : Commanded G s (executionStart s)
  | noticed (n : Notice) : Commanded G s (noticeRequest n s)
  | completed : Commanded G s (reportCompletion s)
  | holdChanged (level : Bool) : Commanded G s (rptHoldChange level s)
  | directed {e : Envelope} {a : Answer} (issued : issuable e s = true) (immediate : Immediate e)
    (service : Service G s (roomFor s) a) :
    Commanded G s (conclude { code := e.code, status := a.status, results := a.results } a.state)
  | inquired {e : Envelope} {o : Owners} (issued : issuable e s = true) (asks : Asks e o) :
    Commanded G s (advanceInquiry e o s)
  | restarting {scope : RestartScope} (issued : issuable (restartEnvelope scope) s = true) :
    Commanded G s (advanceRestart scope s)

theorem Commanded.nothing {G : Media → Prop} {s : State} : Commanded G s s := .event fun _ _ => .refl

theorem Commanded.issue {G : Media → Prop} {e : Envelope} {serve : Nat → State → Answer} {s : State}
    (immediate : Immediate e) (h : ∀ room, Service G s room (serve room s)) : Commanded G s (issue e serve s) := by
  unfold Machine.issue
  split
  · next hissue => exact .directed hissue immediate (h _)
  · exact .nothing

theorem Commanded.issueDirective {G : Media → Prop} {d : Directive} {ps : List Word}
    {serve : List Word → Nat → State → Answer} {s : State} (immediate : Immediate { code := directiveCode d, params := ps })
    (h : ∀ room, Service G s room (serve ps room s)) : Commanded G s (issueDirective d ps serve s) := .issue immediate h

theorem Commanded.issueUnless {G : Media → Prop} {α : Type} {waits : Bool} {form : List Word → Except Status α} {d : Directive}
    {ps : List Word} {serve : List Word → Nat → State → Answer} {s : State}
    (immediate : Immediate { code := directiveCode d, params := ps }) (h : ∀ room, Service G s room (serve ps room s)) :
    Commanded G s (issueUnless waits form d ps serve s) := by
  unfold Machine.issueUnless
  split
  · exact .nothing
  · exact .issueDirective immediate h

theorem Commanded.inquireDirective {G : Media → Prop} {α : Type} {d : Directive} {form : List Word → Except Status α}
    {owners : α → Owners} {ps : List Word} {s : State} (h : ∀ x, form ps = .ok x → Asks (tableEnvelope d ps) (owners x))
    (refused : (∀ x, form ps ≠ .ok x) → Immediate (tableEnvelope d ps)) :
    Commanded G s (inquireDirective d form owners ps s) := by
  unfold Machine.inquireDirective
  split
  · next x hx =>
    unfold inquire
    split
    · next hissue => exact .inquired hissue (h x hx)
    · exact .nothing
  · next hf => exact .issueDirective (refused (by simp [hf])) fun room => .refuse _ s room

theorem Commanded.issueRestart {G : Media → Prop} (scope : RestartScope) (s : State) :
    Commanded G s (issueRestart scope s) := by
  unfold Machine.issueRestart
  split
  · next hissue => exact .restarting hissue
  · exact .nothing

theorem unit_asks (ps : List Word) (x : Unit) (h : formNone ps = .ok x) :
    Asks (tableEnvelope .unitRead ps) unitOwners := by
  cases ps with
  | nil => exact .unitRead
  | cons w ws => cases h

/-- Every command answers a next state, one that these cases describe. -/
theorem exec_commanded {G : Media → Prop} (c : Instr) {s : State} (good : ∀ p, ∀ m ∈ (portOf s p).buffer, G m) :
    ∃ t, exec c s = .next t ∧ Commanded G s t := by
  cases c with
  | hardReset straps => exact ⟨_, rfl, .reset straps⟩
  | linkGain p => exact ⟨_, rfl, .event fun _ _ => moves_linkGain p s⟩
  | linkLoss p => exact ⟨_, rfl, .event fun _ _ => moves_linkLoss p s⟩
  | blockStart p => exact ⟨_, rfl, .event fun _ _ => moves_blockStart p s⟩
  | framingFault p => exact ⟨_, rfl, .event fun _ _ => moves_framingFault p s⟩
  | blockComplete p ws => exact ⟨_, rfl, .event fun _ _ => moves_blockComplete p ws s⟩
  | take => exact ⟨_, rfl, .event fun _ _ => moves_takeBlock good⟩
  | watchSweep => exact ⟨_, rfl, .event fun _ _ => moves_watchSweep s⟩
  | slotEvent l => exact ⟨_, rfl, .event fun _ _ => moves_slotEvent l s⟩
  | frameCompletion l => exact ⟨_, rfl, .event fun _ _ => moves_frameCompletion l s⟩
  | controlBlockOffer p q payload => exact ⟨_, rfl, .offered _⟩
  | executionStart => exact ⟨_, rfl, .started⟩
  | unknownCode code ps =>
    refine ⟨_, rfl, ?_⟩
    split
    · exact .nothing
    · next hnone => exact .issue (immediate_of_unknown (by simpa using hnone)) fun room => .refuse _ s room
  | unitRead ps => exact ⟨_, rfl, .inquireDirective (unit_asks ps) fun h => immediate_of_formFailure (.inl ⟨rfl, fun hps => h () (by rw [hps]; rfl)⟩)⟩
  | portRead ps => exact ⟨_, rfl, .inquireDirective (fun _ h => .portRead h) fun h => immediate_of_formFailure (.inr ⟨.inl rfl, h⟩)⟩
  | portZero ps => exact ⟨_, rfl, .inquireDirective (fun _ h => .portZero h) fun h => immediate_of_formFailure (.inr ⟨.inr rfl, h⟩)⟩
  | restartLanes ps =>
    refine ⟨_, rfl, ?_⟩
    split
    · exact .issueRestart _ s
    · next h => exact .issueDirective (immediate_of_formRestart h) fun room => .refuse _ s room
  | restartFull => exact ⟨_, rfl, .issueRestart _ s⟩
  | echo ps => exact ⟨_, rfl, .issueDirective (immediate_of_directive (by decide) _) fun room => service_echo ps room s⟩
  | groupSet ps => exact ⟨_, rfl, .issueDirective (immediate_of_directive (by decide) _) fun room => service_groupSet ps room s⟩
  | noticeMask ps => exact ⟨_, rfl, .issueDirective (immediate_of_directive (by decide) _) fun room => service_noticeMask ps room s⟩
  | flowSet ps => exact ⟨_, rfl, .issueDirective (immediate_of_directive (by decide) _) fun room => service_flowSet ps room s⟩
  | flowClear ps => exact ⟨_, rfl, .issueDirective (immediate_of_directive (by decide) _) fun room => service_flowClear ps room s⟩
  | flowRead ps => exact ⟨_, rfl, .issueDirective (immediate_of_directive (by decide) _) fun room => service_flowRead ps room s⟩
  | flowList ps => exact ⟨_, rfl, .issueDirective (immediate_of_directive (by decide) _) fun room => service_flowList ps room s⟩
  | flowZero ps => exact ⟨_, rfl, .issueDirective (immediate_of_directive (by decide) _) fun room => service_flowZero ps room s⟩
  | laneSet ps => exact ⟨_, rfl, .issueDirective (immediate_of_directive (by decide) _) fun room => service_laneSet ps room s⟩
  | laneSource ps => exact ⟨_, rfl, .issueDirective (immediate_of_directive (by decide) _) fun room => service_laneSource ps room s⟩
  | laneRead ps => exact ⟨_, rfl, .issueDirective (immediate_of_directive (by decide) _) fun room => service_laneRead ps room s⟩
  | lanePeek ps => exact ⟨_, rfl, .issueDirective (immediate_of_directive (by decide) _) fun room => service_lanePeek ps room s⟩
  | laneZero ps => exact ⟨_, rfl, .issueDirective (immediate_of_directive (by decide) _) fun room => service_laneZero ps room s⟩
  | start ps => exact ⟨_, rfl, .issueDirective (immediate_of_directive (by decide) _) fun room => service_start ps room s⟩
  | halt ps => exact ⟨_, rfl, .issueDirective (immediate_of_directive (by decide) _) fun room => service_halt ps room s⟩
  | run ps => exact ⟨_, rfl, .issueDirective (immediate_of_directive (by decide) _) fun room => service_command .run ps room s⟩
  | hold ps => exact ⟨_, rfl, .issueDirective (immediate_of_directive (by decide) _) fun room => service_command .hold ps room s⟩
  | step ps => exact ⟨_, rfl, .issueDirective (immediate_of_directive (by decide) _) fun room => service_command .step ps room s⟩
  | seek ps => exact ⟨_, rfl, .issueDirective (immediate_of_directive (by decide) _) fun room => service_command .seek ps room s⟩
  | cue ps => exact ⟨_, rfl, .issueDirective (immediate_of_directive (by decide) _) fun room => service_command .cue ps room s⟩
  | stop ps => exact ⟨_, rfl, .issueDirective (immediate_of_directive (by decide) _) fun room => service_stop ps room s⟩
  | timeSet ps => exact ⟨_, rfl, .issueDirective (immediate_of_directive (by decide) _) fun room => service_timeSet ps room s⟩
  | timeAdjust ps => exact ⟨_, rfl, .issueDirective (immediate_of_directive (by decide) _) fun room => service_timeAdjust ps room s⟩
  | timeRead ps => exact ⟨_, rfl, .issueDirective (immediate_of_directive (by decide) _) fun room => service_timeRead ps room s⟩
  | schedAt ps => exact ⟨_, rfl, .issueUnless (immediate_of_directive (by decide) _) fun room => service_at ps room s⟩
  | sdlCancel ps => exact ⟨_, rfl, .issueUnless (immediate_of_directive (by decide) _) fun room => service_cancel ps room s⟩
  | sdlCancelAll => exact ⟨_, rfl, .issueUnless (immediate_of_directive (by decide) _) fun room => service_cancel [0xFFFF] room s⟩
  | sdlRead ps => exact ⟨_, rfl, .issueUnless (immediate_of_directive (by decide) _) fun room => service_sdlRead ps room s⟩
  | expiry => exact ⟨_, rfl, .expired⟩
  | overdueRequest => exact ⟨_, rfl, .walked⟩
  | noticeRequest n => exact ⟨_, rfl, .noticed n⟩
  | reportCompletion => exact ⟨_, rfl, .completed⟩
  | rptHoldChange level => exact ⟨_, rfl, .holdChanged level⟩
  | tbTick => exact ⟨_, rfl, .ticked⟩

end Sys2Proof.Elementary
end


section
/-! The steps of the control unit and of the report generator leave the other blocks as they are; and what a RESTART does to those. With
these, every command is a sequence of moves of ports, table, store and lanes. -/

namespace Sys2Proof.Elementary

open Sys2Proof.Machine Sys2Proof.Safety Sys2Proof.Placement

/-! ## The control unit and the report generator -/

/-- t differs from s at the control unit, the report generator and what waits for them. -/
def AtControl (s t : State) : Prop :=
  t =
    { s with
      control := t.control, reports := t.reports, offers := t.offers, requests := t.requests
      surroundings := t.surroundings }

theorem AtControl.refl {s : State} : AtControl s s := Eq.refl s

theorem AtControl.trans {s t u : State} (h : AtControl s t) (h' : AtControl t u) : AtControl s u := by
  unfold AtControl at *
  rw [h', h]

theorem atControl_setControl (c : Control) (s : State) : AtControl s (setControl c s) := Eq.refl _

theorem atControl_setReports (r : Reports) (s : State) : AtControl s (setReports r s) := Eq.refl _

theorem atControl_pushReport (kind : ReportKind) (payload : List Word) (s : State) : AtControl s (pushReport kind payload s) :=
  Eq.refl _

theorem atControl_finishBlock (status : BlockStatus) (es : List ResultEntry) (s : State) :
    AtControl s (finishBlock status es s) := by
  unfold finishBlock
  split
  · exact Eq.refl _
  · simp only
    split <;> exact Eq.refl _

theorem atControl_endBlock (status : BlockStatus) (es : List ResultEntry) (s : State) :
    AtControl s (endBlock status es s) := by
  unfold endBlock
  split
  · exact AtControl.trans (t := useFinish s) (Eq.refl _) (atControl_finishBlock _ _ _)
  · exact Eq.refl _

theorem atControl_conclude (r : ResultEntry) (s : State) : AtControl s (conclude r s) := by
  unfold conclude
  simp only
  split
  · exact Eq.refl _
  · split
    · exact (atControl_setControl _ s).trans (atControl_endBlock _ _ _)
    · split
      · exact (atControl_setControl _ s).trans (atControl_endBlock _ _ _)
      · exact Eq.refl _

theorem atControl_countControl (f : ControlCounters → ControlCounters) (s : State) : AtControl s (countControl f s) :=
  Eq.refl _

theorem atControl_judgeOffer (o : Offer) (s : State) : AtControl s (judgeOffer o s) := by
  have hcount (f : ControlCounters → ControlCounters) : AtControl s (countControl f s) := Eq.refl _
  have hretry (wanted : Bool) (r : List Word) : AtControl s (answerRetry wanted r s) := by
    unfold answerRetry
    split
    · exact hcount _
    · split
      · exact (hcount _).trans (atControl_pushReport _ _ _)
      · exact hcount _
  unfold judgeOffer
  split
  · exact hcount _
  · split
    · unfold meetFirstCopy
      split
      · exact hcount _
      · split
        · exact hcount _
        · exact hretry _ _
    · unfold admitControl
      split
      · exact Eq.refl _
      · rw [intakeOverrun_eq]
        exact Eq.refl _

theorem atControl_serveOffer (o : Offer) (s : State) : AtControl s (serveOffer o s) := by
  unfold serveOffer
  split
  · exact Eq.refl _
  · exact Eq.refl _
  · exact atControl_judgeOffer o s
  · split
    · exact AtControl.trans (t := setOffers _ s) (Eq.refl _) (atControl_judgeOffer o _)
    · exact Eq.refl _

theorem atControl_executionStart (s : State) : AtControl s (executionStart s) := by
  have hreserve (b : IntakeEntry) : AtControl s (reserveFor b s) := by
    unfold reserveFor
    split <;> exact Eq.refl _
  unfold executionStart
  split
  · unfold startHead
    split
    · exact Eq.refl _
    · split
      · unfold startBlock
        simp only
        split
        · exact (hreserve _).trans (atControl_endBlock _ _ _)
        · exact (hreserve _).trans (atControl_setControl _ _)
      · exact Eq.refl _
  · split
    · exact Eq.refl _
    · exact atControl_finishBlock _ _ _

theorem atControl_serveNotice (n : Notice) (s : State) : AtControl s (serveNotice n s) := by
  rw [serveNotice_eq]
  exact Eq.refl _

theorem atControl_noticeRequest (n : Notice) (s : State) : AtControl s (noticeRequest n s) := by
  unfold noticeRequest
  split
  · exact Eq.refl _
  · exact AtControl.trans (t := setRequests _ s) (Eq.refl _) (atControl_serveNotice n _)

theorem atControl_reportCompletion (s : State) : AtControl s (reportCompletion s) := by
  unfold reportCompletion
  split <;> exact Eq.refl _

theorem atControl_drainRequests (s : State) : AtControl s (drainRequests s) := by
  have hserved : ∀ (ns : List Notice) (t : State), AtControl t (ns.foldl (fun u n => serveNotice n u) t) := by
    intro ns
    induction ns with
    | nil => exact fun _ => .refl
    | cons n rest ih => exact fun t => (atControl_serveNotice n t).trans (ih _)
  exact AtControl.trans (hserved s.requests s) (Eq.refl _)

theorem atControl_restartReports (response : Option (List Word)) (s : State) : AtControl s (restartReports response s) := by
  unfold restartReports pushResponse
  split <;> exact Eq.refl _

/-! ## Moves of ports, table, store and lanes -/

/-- t differs from s in no port, not in the flow table, the store or a lane, nor in the commands that wait. -/
structure Aside (s t : State) : Prop where
  ports : t.ports = s.ports
  table : t.classifier.table = s.classifier.table
  store : t.store = s.store
  lanes : t.lanes = s.lanes
  pending : t.pending = s.pending

theorem AtControl.aside {s t : State} (h : AtControl s t) : Aside s t := by
  rw [h]
  exact ⟨rfl, rfl, rfl, rfl, rfl⟩

/-- One move of ports, table, store and lanes, those of a RESTART and of a hard reset among them. -/
inductive PartMove (G : Media → Prop) (s : State) : State → Prop
  | move {t : State} (h : Move (Scope.all G) s t) : PartMove G s t
  | aside {t : State} (h : Aside s t) : PartMove G s t
  | storeEmptied (empty : ∀ l, holdsNothing (laneOf s l) = true) : PartMove G s (setStore emptyStore s)
  | flagCleared : PartMove G s (setStore { s.store with fullFlag := false } s)
  | reset (straps : BitVec 6) : PartMove G s (hardReset straps s)

/-- Such moves one after another. -/
abbrev PartMoves (G : Media → Prop) : State → State → Prop := Relation.ReflTransGen (PartMove G)

theorem Moves.partMoves {G : Media → Prop} {s t : State} (h : Moves (Scope.all G) s t) : PartMoves G s t :=
  Relation.ReflTransGen.mono (r := Move (Scope.all G)) (p := PartMove G) (fun _ _ => .move) _ _ h

theorem AtControl.partMoves {G : Media → Prop} {s t : State} (h : AtControl s t) : PartMoves G s t := .single (.aside h.aside)

theorem Served.partMoves {G : Media → Prop} {s t : State} (h : Served G s t) : PartMoves G s t := by
  cases h with
  | moved h => exact (h True).partMoves
  | adjusted range => exact (moves_adjusted trivial trivial range s).partMoves
  | grouped g => exact AtControl.partMoves (atControl_setControl _ s)
  | masked m => exact AtControl.partMoves (atControl_setReports _ s)

/-! ## Directives whose owners are asked in turn -/

theorem partMoves_askOwners {G : Media → Prop} {e : Envelope} {o : Owners} (h : Asks e o) (q : Inquiry) (s : State) :
    PartMoves G s (askOwners o q s) := by
  have heffect (k : Nat) (t : State) : PartMoves G t (o.effect k t) := by
    cases h with
    | unitRead => exact .refl
    | portRead => exact .refl
    | @portZero _ p _ =>
      cases k with
      | zero => exact .single (.move (.port .zeroed))
      | succ k => exact .single (.aside ⟨rfl, rfl, rfl, rfl, rfl⟩)
  have hall : ∀ (ks : List Nat) (t : State), PartMoves G t (ks.foldl (fun u k => o.effect k u) t) := by
    intro ks
    induction ks with
    | nil => exact fun _ => .refl
    | cons k rest ih => exact fun t => (heffect k t).trans (ih _)
  exact (hall (ownersNow o q s) s).tail (.aside ⟨rfl, rfl, rfl, rfl, rfl⟩)

theorem partMoves_advanceInquiry {G : Media → Prop} {e : Envelope} {o : Owners} (h : Asks e o) (s : State) :
    PartMoves G s (advanceInquiry e o s) := by
  have hasked := partMoves_askOwners (G := G) h (inquiryOf e s) s
  unfold advanceInquiry
  simp only
  split
  · exact hasked.tail (.aside ⟨rfl, rfl, rfl, rfl, rfl⟩)
  · refine hasked.trans (AtControl.partMoves (AtControl.trans ?_ (atControl_conclude _ _)))
    unfold Machine.readOut
    split <;> exact Eq.refl _

/-! ## RESTART -/

theorem moves_restartLane {G : Media → Prop} (scope : RestartScope) (s : State) (l : LaneId) :
    Moves (Scope.all G) s (restartLane scope s l) := .single (.drop (.restarted trivial scope))

theorem moves_foldl_restartLane {G : Media → Prop} (scope : RestartScope) (ls : List LaneId) (s : State) :
    Moves (Scope.all G) s (ls.foldl (restartLane scope) s) := by
  induction ls generalizing s with
  | nil => exact .refl
  | cons l rest ih => exact (moves_restartLane scope s l).trans (ih _)

theorem partMoves_beginRestart {G : Media → Prop} (scope : RestartScope) (s : State) : PartMoves G s (beginRestart scope s) := by
  unfold beginRestart
  split
  · exact .refl
  · cases scope with
    | lanes => exact .single (.aside ⟨rfl, rfl, rfl, rfl, rfl⟩)
    | full => exact (moves_afterService trivial trivial s).partMoves.tail (.aside ⟨rfl, rfl, rfl, rfl, rfl⟩)

theorem partMoves_restartLanes {G : Media → Prop} (r : RestartInProgress) (s : State) : PartMoves G s (restartLanes r s) :=
  (moves_foldl_restartLane r.scope (turnOf r s) s).partMoves.tail (.aside ⟨rfl, rfl, rfl, rfl, rfl⟩)

theorem partMoves_restartStore {G : Media → Prop} (s : State) : PartMoves G s (restartStore s) := by
  unfold restartStore
  split
  · next h => exact .single (.storeEmptied fun l => List.all_eq_true.mp h l (List.mem_finRange l))
  · exact .single .flagCleared

theorem partMoves_restartBeside {G : Media → Prop} (s : State) : PartMoves G s (restartBeside s) := by
  have ha : PartMove G s (setPort .a (restartPort s.ports.a) s) := .move (.port (p := .a) .restarted)
  have hb : PartMove G (setPort .a (restartPort s.ports.a) s)
      (setPort .b (restartPort s.ports.b) (setPort .a (restartPort s.ports.a) s)) := .move (.port (p := .b) .restarted)
  have htable : PartMove G (setPort .b (restartPort s.ports.b) (setPort .a (restartPort s.ports.a) s))
      (setTable (s.classifier.table.filter fun _ => false)
        (setPort .b (restartPort s.ports.b) (setPort .a (restartPort s.ports.a) s))) := .move (.table (.removed _))
  refine Relation.ReflTransGen.tail (.tail (.tail (.single ha) hb) htable) (.aside ⟨rfl, ?_, rfl, rfl, rfl⟩)
  simp [restartBeside, resetClassifier]

theorem partMoves_endRestartFull {G : Media → Prop} (s : State) : PartMoves G s (endRestartFull s) := by
  have hblocks : PartMoves G s (drainRequests (restartStore (restartBeside s))) :=
    ((partMoves_restartBeside s).trans (partMoves_restartStore _)).trans
      (AtControl.partMoves (atControl_drainRequests _))
  unfold endRestartFull
  simp only
  split
  · exact hblocks.trans (AtControl.partMoves ((atControl_setControl _ _).trans (atControl_restartReports _ _)))
  · exact hblocks.trans (AtControl.partMoves ((atControl_setControl _ _).trans (atControl_restartReports _ _)))

theorem partMoves_endRestart {G : Media → Prop} (scope : RestartScope) (s : State) : PartMoves G s (endRestart scope s) := by
  have hended : PartMoves G s (setControl { s.control with restart := none } s) := AtControl.partMoves (atControl_setControl _ s)
  unfold endRestart
  cases scope with
  | lanes =>
    have hstore := hended.trans (partMoves_restartStore (G := G) _)
    refine hstore.trans (AtControl.partMoves (AtControl.trans (t := request _ _) (Eq.refl _) (atControl_conclude _ _)))
  | full => exact hended.trans (partMoves_endRestartFull _)

theorem partMoves_advanceRestart {G : Media → Prop} (scope : RestartScope) (s : State) :
    PartMoves G s (advanceRestart scope s) := by
  have hbegun := partMoves_beginRestart (G := G) scope s
  unfold advanceRestart
  split
  · exact .refl
  · simp only
    split
    · exact hbegun.trans (partMoves_restartLanes _ _)
    · exact (hbegun.trans (partMoves_restartLanes _ _)).trans (partMoves_endRestart scope _)

/-! ## Every command -/

theorem Commanded.partMoves {G : Media → Prop} {s t : State} (h : Commanded G s t) : PartMoves G s t := by
  cases h with
  | reset straps => exact .single (.reset straps)
  | event h => exact (h True True).partMoves
  | ticked => exact (moves_tick trivial s).partMoves
  | expired => exact (moves_expiry trivial trivial s).partMoves
  | walked => exact (moves_overdueRequest trivial trivial s).partMoves
  | offered o => exact (atControl_serveOffer o s).partMoves
  | started => exact (atControl_executionStart s).partMoves
  | noticed n => exact (atControl_noticeRequest n s).partMoves
  | completed => exact (atControl_reportCompletion s).partMoves
  | holdChanged level => exact (atControl_setReports _ s).partMoves
  | directed _ _ service => exact (service.served.partMoves).trans (atControl_conclude _ _).partMoves
  | inquired _ asks => exact partMoves_advanceInquiry asks s
  | restarting _ => exact partMoves_advanceRestart _ s

/-- A command is a sequence of moves of ports, table, store and lanes. -/
theorem partMoves_of_exec {G : Media → Prop} {c : Instr} {s t : State} (good : ∀ p, ∀ m ∈ (portOf s p).buffer, G m)
    (h : exec c s = .next t) : PartMoves G s t := by
  obtain ⟨u, hu, hc⟩ := exec_commanded c good
  rw [h] at hu
  cases hu
  exact hc.partMoves

/-- What is kept by every such move is kept by every step. -/
theorem step_keeps {G : Media → Prop} {P : State → Prop} {s t : State} (good : ∀ p, ∀ m ∈ (portOf s p).buffer, G m)
    (moves : ∀ u v, PartMove G u v → P u → P v) (waiting : ∀ u rest, P u → P { u with pending := rest }) (hs : P s)
    (h : step s = .next t) : P t := by
  have keeps {u v : State} (huv : PartMoves G u v) (hu : P u) : P v := by
    induction huv with
    | refl => exact hu
    | tail _ hmove ih => exact moves _ _ hmove ih
  unfold step at h
  split at h
  · cases h
    exact hs
  · next c rest hp =>
    exact keeps (partMoves_of_exec (s := { s with pending := rest }) good h) (waiting s rest hs)

end Sys2Proof.Elementary
end


section
/-! The flow table (O54), the ports and the store-full flag (O53) under every move. -/

namespace Sys2Proof.Elementary

open Sys2Proof.Machine Sys2Proof.Safety Sys2Proof.Placement

/-! ## What a move does to the flow table -/

theorem beginFrame_classifier (l : LaneId) (kind : FrameKind) (slot : Tick) (s : State) :
    (beginFrame l kind slot s).classifier = s.classifier := by
  unfold beginFrame
  simp only
  split <;> rfl

theorem beginFrame_ports (l : LaneId) (kind : FrameKind) (slot : Tick) (s : State) :
    (beginFrame l kind slot s).ports = s.ports := by
  unfold beginFrame
  simp only
  split <;> rfl

/-- A move leaves the flow table, changes it by the classifier's rules or empties it. -/
theorem PartMove.table_cases {G : Media → Prop} {s t : State} (h : PartMove G s t) :
    t.classifier.table = s.classifier.table ∨ TableMove s.classifier.table t.classifier.table ∨ t.classifier.table = [] := by
  cases h with
  | aside h => exact .inl h.table
  | storeEmptied => exact .inl rfl
  | flagCleared => exact .inl rfl
  | reset => exact .inr (.inr rfl)
  | move h =>
    cases h with
    | beside h => rw [h]; exact .inl rfl
    | table h => exact .inr (.inl h)
    | drop => exact .inl (by simp [updateLane])
    | frame kind slot => exact .inl (by rw [beginFrame_classifier])
    | stored p => exact .inl (by rw [foldl_insertAt (nodup_passingLanes _ s)]; rfl)
    | _ => exact .inl rfl

/-! ## Insertion into a list in order -/

/-- u is t with x in its place: behind those not above it, ahead of the first above it. -/
def InsertedBy {α : Type} (key : α → Nat) (x : α) (t u : List α) : Prop :=
  ∃ before behind, t = before ++ behind ∧ u = before ++ x :: behind ∧ (∀ y ∈ before, key y ≤ key x) ∧
    ∀ y ∈ behind.head?.toList, key x < key y

namespace InsertedBy

variable {α : Type} {key : α → Nat} {x : α} {t u : List α}

theorem front (h : ∀ y ∈ t.head?.toList, key x < key y) : InsertedBy key x t (x :: t) := ⟨[], t, rfl, rfl, by simp, h⟩

theorem cons {y : α} (hy : key y ≤ key x) (h : InsertedBy key x t u) : InsertedBy key x (y :: t) (y :: u) := by
  obtain ⟨before, behind, ht, hu, hbefore, hbehind⟩ := h
  exact ⟨y :: before, behind, by rw [ht]; rfl, by rw [hu]; rfl, by simpa using ⟨hy, hbefore⟩, hbehind⟩

theorem perm (h : InsertedBy key x t u) : u.Perm (x :: t) := by
  obtain ⟨before, behind, ht, hu, -⟩ := h
  rw [hu, ht]
  exact List.perm_middle

theorem mem_iff (h : InsertedBy key x t u) {y : α} : y ∈ u ↔ y = x ∨ y ∈ t := by
  rw [h.perm.mem_iff, List.mem_cons]

theorem length_eq (h : InsertedBy key x t u) : u.length = t.length + 1 := h.perm.length_eq

theorem pairwise_le (h : InsertedBy key x t u) (sorted : (t.map key).Pairwise (· ≤ ·)) : (u.map key).Pairwise (· ≤ ·) := by
  obtain ⟨before, behind, rfl, rfl, hbefore, hbehind⟩ := h
  rw [List.map_append, List.pairwise_append] at sorted
  obtain ⟨sbefore, sbehind, across⟩ := sorted
  have habove : ∀ y ∈ behind, key x ≤ key y := by
    intro y hy
    cases behind with
    | nil => cases hy
    | cons z zs =>
      have hz : key x < key z := hbehind z (by simp)
      rcases List.mem_cons.mp hy with rfl | hy
      · exact hz.le
      · exact hz.le.trans ((List.pairwise_cons.mp sbehind).1 _ (List.mem_map_of_mem hy))
  rw [List.map_append, List.map_cons, List.pairwise_append, List.pairwise_cons]
  refine ⟨sbefore, ⟨by simpa using habove, sbehind⟩, fun n hn k hk => ?_⟩
  obtain ⟨y, hy, rfl⟩ := List.mem_map.mp hn
  rcases List.mem_cons.mp hk with rfl | hk
  · exact hbefore y hy
  · exact across _ (List.mem_map_of_mem hy) _ hk

theorem pairwise_lt (h : InsertedBy key x t u) (absent : ∀ y ∈ t, key y ≠ key x)
    (sorted : (t.map key).Pairwise (· < ·)) : (u.map key).Pairwise (· < ·) := by
  have hle := h.pairwise_le (sorted.imp fun hlt => le_of_lt hlt)
  have hne : (u.map key).Nodup := by
    rw [(h.perm.map key).nodup_iff, List.map_cons, List.nodup_cons]
    refine ⟨fun hmem => ?_, sorted.imp fun hlt => ne_of_lt hlt⟩
    obtain ⟨y, hy, heq⟩ := List.mem_map.mp hmem
    exact absent y hy heq
  exact (hle.and hne).imp fun hab => lt_of_le_of_ne hab.1 hab.2

end InsertedBy

/-- The place of a new entry (R36, R44). -/
theorem insertFlow_inserted (x : FlowEntry) (t : List FlowEntry) :
    InsertedBy (fun e => e.flow.toNat) x t (insertFlow x t) := by
  induction t with
  | nil => exact .front (by simp)
  | cons e es ih =>
    unfold insertFlow
    split
    · next h => exact .front (by simpa using h)
    · next h => exact ih.cons (Nat.not_lt.mp h)

/-- A flow without entry is no entry's flow. -/
theorem findFlow_eq_none {f : Word} {t : List FlowEntry} (h : findFlow f t = none) : ∀ e ∈ t, e.flow ≠ f := by
  simpa [findFlow] using h

theorem flows_replaceFlow (x : FlowEntry) (t : List FlowEntry) :
    (replaceFlow x t).map (fun e => e.flow.toNat) = t.map fun e => e.flow.toNat := by
  simp only [replaceFlow, List.map_map]
  refine List.map_congr_left fun e _ => ?_
  simp only [Function.comp]
  split
  · next h => rw [h]
  · rfl

/-- The flow table's invariant, of the table alone (R25). -/
def tableOk (t : List FlowEntry) : Prop :=
  t.length ≤ 64 ∧ (t.map fun e => e.flow.toNat).Pairwise (· < ·) ∧ ∀ e ∈ t, flowOk e

theorem flowOk_newFlow {a : FlowSetArgs} (valid : a.flow ≠ 0 ∧ a.flow ≠ 0xFFFF) : flowOk (newFlow a) :=
  ⟨valid, by simp [newFlow], by simp [newFlow], by simp [newFlow], by simp [newFlow], by simp [newFlow], fun _ => rfl, fun _ => rfl⟩

theorem TableMove.keeps {t u : List FlowEntry} (h : TableMove t u) (ht : tableOk t) : tableOk u := by
  obtain ⟨hlen, sorted, hall⟩ := ht
  cases h with
  | @replaced e x mem same keeps =>
    refine ⟨by simpa [replaceFlow] using hlen, by rwa [flows_replaceFlow], fun y hy => ?_⟩
    obtain ⟨z, hz, rfl⟩ := List.mem_map.mp hy
    split
    · exact keeps (hall e mem)
    · exact hall z hz
  | mapped same keeps =>
    refine ⟨by simpa using hlen, by simpa [Function.comp_def, same] using sorted, fun y hy => ?_⟩
    obtain ⟨z, hz, rfl⟩ := List.mem_map.mp hy
    exact keeps z (hall z hz)
  | @inserted a absent room valid =>
    have hinserted := insertFlow_inserted (newFlow a) t
    have hne : ∀ e ∈ t, e.flow.toNat ≠ (newFlow a).flow.toNat := fun e he heq =>
      findFlow_eq_none absent e he (BitVec.eq_of_toNat_eq heq)
    refine ⟨by rw [hinserted.length_eq]; exact room, hinserted.pairwise_lt hne sorted, fun y hy => ?_⟩
    rcases (hinserted.mem_iff).mp hy with rfl | hy
    · exact flowOk_newFlow valid
    · exact hall y hy
  | removed p =>
    exact ⟨(List.length_filter_le p t).trans hlen, sorted.sublist (List.filter_sublist.map _),
      fun y hy => hall y (List.mem_of_mem_filter hy)⟩

/-- Settles O54: the table changes by the classifier's rules alone, each of which keeps its invariant. -/
theorem stepKeepsFlowTable : Obligations.StepKeepsFlowTable := by
  intro s t hs h
  refine step_keeps (G := fun _ => True) (fun _ _ _ => trivial) (fun u v huv hu => ?_) (fun _ _ hu => hu) hs h
  rcases huv.table_cases with heq | hmove | hnil
  · have : tableOk v.classifier.table := heq ▸ hu
    exact this
  · exact hmove.keeps hu
  · have : tableOk v.classifier.table := by simp [tableOk, hnil]
    exact this

/-! ## What a move does to a port -/

/-- A move leaves a port, changes it by the port's rules or resets it. -/
theorem PartMove.port_cases {G : Media → Prop} {s t : State} (h : PartMove G s t) (p : PortId) :
    portOf t p = portOf s p ∨ PortMove (portOf s p) (portOf t p) ∨ portOf t p = resetPort := by
  have hports {u : State} (hu : u.ports = s.ports) : portOf u p = portOf s p := by
    unfold portOf
    rw [hu]
  cases h with
  | aside h => exact .inl (hports h.ports)
  | storeEmptied => exact .inl rfl
  | flagCleared => exact .inl rfl
  | reset => exact .inr (.inr (by cases p <;> rfl))
  | move h =>
    cases h with
    | beside h => rw [h]; exact .inl rfl
    | @port q y h =>
      by_cases hq : p = q
      · subst hq
        rw [portOf_setPort_same]
        exact .inr (.inl h)
      · have hother : p = otherPort q := by cases p <;> cases q <;> simp_all [otherPort]
        rw [hother, portOf_setPort_other]
        exact .inl rfl
    | drop => exact .inl (hports (by simp [updateLane]))
    | frame kind slot => exact .inl (hports (beginFrame_ports _ _ _ _))
    | stored q => exact .inl (hports (by rw [foldl_insertAt (nodup_passingLanes _ s)]; rfl))
    | _ => exact .inl rfl

theorem toNat_bump (c : Count) : (bump c).toNat = min (c.toNat + 1) (2 ^ 32 - 1) := by
  simp only [bump, satAdd, BitVec.toNat_ofNat]
  omega

/-- The five outcomes of completed blocks together (R14). -/
def outcomes (c : PortCounters) : Nat :=
  c.mediaGood.toNat + c.controlGood.toNat + c.length.toNat + c.crc.toNat + c.kind.toNat

/-- Until completed saturates, no outcome does: a block counted under one of them counts once in their sum. -/
theorem OutcomeCounted.outcomes {c d : PortCounters} (h : OutcomeCounted c d) (below : outcomes c < 2 ^ 32 - 1) :
    d.completed = c.completed ∧ Elementary.outcomes d = Elementary.outcomes c + 1 := by
  unfold Elementary.outcomes at *
  cases h
  all_goals
    refine ⟨rfl, ?_⟩
    simp only [toNat_bump]
    omega

theorem PortMove.keeps {x y : Port} (h : PortMove x y) (hx : portOk x) : portOk y := by
  obtain ⟨hup, hlen, hgood, hsum⟩ := hx
  cases h with
  | link open_up truncated flag => exact ⟨open_up, hlen, hgood, hsum⟩
  | @completed c ms counted room good overflow flag =>
    refine ⟨by simp, by simpa [hlen] using room, fun m hm => ?_, fun hbelow => ?_⟩
    · rcases List.mem_append.mp hm with hm | hm
      · exact hgood m hm
      · exact good m hm
    · have hcompleted : c.completed = bump x.counters.completed := by cases counted <;> rfl
      have hbelow' : c.completed.toNat < 2 ^ 32 - 1 := hbelow
      rw [hcompleted, toNat_bump] at hbelow'
      have hold := hsum (by omega)
      have hcount := counted.outcomes (by unfold Elementary.outcomes; simp only; omega)
      unfold Elementary.outcomes at hcount
      simp only at hcount ⊢
      rw [hcompleted, toNat_bump]
      omega
  | popped =>
    exact ⟨hup, by simp only [List.length_tail]; omega, fun m hm => hgood m (List.mem_of_mem_tail hm), hsum⟩
  | zeroed => exact ⟨hup, hlen, hgood, by simp [zeroPortCounters]⟩
  | restarted => exact ⟨hup, by simp [restartPort], by simp [restartPort], by simp [restartPort, zeroPortCounters]⟩

theorem portsOk_iff (s : State) : PortsOk s ↔ ∀ p, portOk (portOf s p) :=
  ⟨fun h p => by cases p; exacts [h.1, h.2], fun h => ⟨h .a, h .b⟩⟩

theorem PartMove.keeps_portsOk {G : Media → Prop} {s t : State} (h : PartMove G s t) (hs : PortsOk s) : PortsOk t := by
  rw [portsOk_iff] at *
  intro p
  rcases h.port_cases p with heq | hmove | hreset
  · exact heq ▸ hs p
  · exact hmove.keeps (hs p)
  · rw [hreset]
    simp [portOk, resetPort, zeroPortCounters]

/-! ## The store-full flag -/

theorem fullFlagOk_release {s : State} (h : FullFlagOk s) (ref : Nat) : FullFlagOk (release ref s) := by
  unfold release
  split
  · exact h
  · split
    · rw [judgeRecovery_eq]
      intro hflag
      simp only [setStore_store, Bool.and_eq_true, Bool.not_eq_true', recovered] at hflag
      obtain ⟨hset, hnot⟩ := hflag
      rw [hset, Bool.true_and] at hnot
      replace hnot := of_decide_eq_false hnot
      simp only [Config.recoveryCells, Config.recoveryRecords] at hnot
      simp only [setStore_store]
      omega
    · exact h

theorem fullFlagOk_applyEffects {s : State} (h : FullFlagOk s) (fx : List Effect) : FullFlagOk (applyEffects fx s) := by
  induction fx generalizing s with
  | nil => exact h
  | cons a rest ih =>
    rw [applyEffects_cons]
    refine ih ?_
    cases a with
    | release ref => exact fullFlagOk_release h ref
    | request n => exact h

/-- A payload within the limit that finds no room leaves a threshold unmet (R50, R53). -/
theorem threshold_of_no_room {st : Store} {n : Nat} (hn : n ≤ 256) (h : storeHasRoom st n = false) :
    st.freeCells < 128 ∨ st.freeRecords < 64 := by
  have := of_decide_eq_false h
  simp only [cellsFor] at this
  omega

theorem PartMove.keeps_fullFlagOk {s t : State} (h : PartMove (fun m => m.payload.length ≤ 256) s t) (hs : FullFlagOk s) :
    FullFlagOk t := by
  have same {u : State} (hu : u.store = s.store) : FullFlagOk u := by
    unfold FullFlagOk
    rw [hu]
    exact hs
  cases h with
  | aside h => exact same h.store
  | storeEmptied => exact fun h => nomatch h
  | flagCleared => exact fun h => nomatch h
  | reset => exact fun h => nomatch h
  | move h =>
    cases h with
    | beside h => rw [h]; exact hs
    | drop => exact fullFlagOk_applyEffects (s := setLane _ _ s) hs _
    | frame kind slot =>
      unfold beginFrame
      simp only
      split <;> exact hs
    | stored p room =>
      rw [foldl_insertAt (nodup_passingLanes _ s)]
      intro hflag
      rcases hs hflag with h | h
      · exact .inl ((Nat.sub_le _ _).trans_lt h)
      · exact .inr ((Nat.sub_le _ _).trans_lt h)
    | filled good no_room => exact fun _ => threshold_of_no_room good no_room
    | _ => exact hs

/-- Settles O53: ports change by their own rules alone; a block that finds the store full comes from a receive buffer, so its payload
is within the limit and a threshold is far. -/
theorem stepKeepsPorts : Obligations.StepKeepsPorts := by
  intro s t hports hflag h
  have good : ∀ p, ∀ m ∈ (portOf s p).buffer, m.payload.length ≤ 256 := fun p m hm =>
    (((portsOk_iff s).mp hports p).2.2.1 m hm).1
  exact step_keeps (P := fun u => PortsOk u ∧ FullFlagOk u) good
    (fun u v huv hu => ⟨huv.keeps_portsOk hu.1, huv.keeps_fullFlagOk hu.2⟩) (fun _ _ hu => hu) ⟨hports, hflag⟩ h

end Sys2Proof.Elementary
end


section
/-! The lanes under every move: their shapes and queue orders (O56), their charges, configurations and grids (O57). -/

namespace Sys2Proof.Elementary

open Sys2Proof.Machine Sys2Proof.Safety Sys2Proof.Placement

/-! ## What a move does to a lane -/

/-- What one move makes of a lane. -/
inductive LaneMove (x : Lane) : Lane → Prop
  | touch {D : Prop} {y : Lane} (h : LaneTouch D x y) : LaneMove x y
  | drop {D : Prop} {clock : TimeBase} {y : Lane} {fx : List Effect} (h : LaneDrop D clock x y fx) : LaneMove x y
  | framed (f : Option Frame) : LaneMove x { x with frame := f }
  | inserted {m : Media} {tb : Tick} (p : PortId) (ref : Nat) (passes : lanePasses m tb x = true) :
    LaneMove x (insertedLane m p ref x)
  | reset : LaneMove x resetLane

theorem LaneMove.refl {x : Lane} : LaneMove x x := .touch (D := True) .same

theorem laneOf_beginFrame (l : LaneId) (kind : FrameKind) (slot : Tick) (s : State) (k : LaneId) :
    laneOf (beginFrame l kind slot s) k =
      if k = l then { laneOf s l with frame := some (newFrame kind slot (laneOf s l) (heldLength s (laneOf s l))) }
      else laneOf s k := by
  unfold beginFrame
  simp only
  split
  · rw [laneOf_addHolder, laneOf_setLane]
  · rw [laneOf_setLane]

/-- A move makes of each lane what one of the lane's own moves makes of it. -/
theorem PartMove.laneMove {G : Media → Prop} {s t : State} (h : PartMove G s t) (l : LaneId) :
    LaneMove (laneOf s l) (laneOf t l) := by
  have same {u : State} (hu : u.lanes = s.lanes) : LaneMove (laneOf s l) (laneOf u l) := by
    have : laneOf u l = laneOf s l := by unfold laneOf; rw [hu]
    exact this ▸ .refl
  cases h with
  | aside h => exact same h.lanes
  | storeEmptied => exact same rfl
  | flagCleared => exact same rfl
  | reset straps =>
    have : laneOf (hardReset straps s) l = resetLane := by simp [laneOf, hardReset]
    exact this ▸ .reset
  | move h =>
    cases h with
    | beside h => exact same (by rw [h])
    | port => exact same rfl
    | table => exact same rfl
    | lanes h => exact .touch (h l)
    | @drop k y fx h =>
      have : laneOf (updateLane k (y, fx) s) l = if l = k then y else laneOf s l := by
        rw [updateLane, laneOf_applyEffects, laneOf_setLane]
      rw [this]
      split
      · next hl => exact .drop (hl ▸ h)
      · exact .refl
    | frame kind slot =>
      rw [laneOf_beginFrame]
      split
      · next hl => exact hl ▸ .framed _
      · exact .refl
    | @stored m p =>
      rw [foldl_insertAt (nodup_passingLanes m s)]
      have hof := laneOf_of_lanes (ls := passingLanes m s) (g := fun _ => insertedLane m p (nextRef s.store))
        (s := setStore (storeBlock m.payload (passingLanes m s).length s.store) s)
        (t := { setStore (storeBlock m.payload (passingLanes m s).length s.store) s with
                lanes := lanesWith (passingLanes m s) (fun _ => insertedLane m p (nextRef s.store))
                  (setStore (storeBlock m.payload (passingLanes m s).length s.store) s) }) rfl l
      rw [hof]
      split
      · next hl => exact .inserted p _ ((mem_passingLanes).mp hl)
      · exact .refl
    | _ => exact same rfl

/-- What every move of a lane keeps, every step keeps of all lanes. -/
theorem lanes_step_keeps {P : Lane → Prop} (keeps : ∀ x y, LaneMove x y → P x → P y) {s t : State}
    (hs : ∀ l, P (laneOf s l)) (h : step s = .next t) : ∀ l, P (laneOf t l) :=
  step_keeps (G := fun _ => True) (P := fun u => ∀ l, P (laneOf u l)) (fun _ _ _ => trivial)
    (fun _ _ huv hu l => keeps _ _ (huv.laneMove l) (hu l)) (fun _ _ hu => hu) hs h

variable {D : Prop} {clock : TimeBase}

/-! ## The queue against its datum (R78, R79) -/

/-- The place of a new entry (R79). -/
theorem insertEntry_inserted (d : Tick) (e : Entry) (q : List Entry) :
    InsertedBy (fun y => distance d y.release) e q (insertEntry d e q) := by
  induction q with
  | nil => exact .front (by simp)
  | cons x xs ih =>
    unfold insertEntry
    split
    · next h => exact ih.cons h
    · next h => exact .front (by simpa using h)

theorem strictlyAfter_iff {a b : Tick} : strictlyAfter a b = true ↔ 1 ≤ distance b a ∧ distance b a < 2 ^ 31 := by
  simp [strictlyAfter]

/-- The distance from a later point is the rest of the way. -/
theorem distance_from {d e y : Tick} (h : distance d e ≤ distance d y) : distance e y = distance d y - distance d e := by
  unfold distance at *
  bv_omega

/-- A queue kept in part is in order against its datum. -/
theorem queueOrdered_sublist {x : Lane} (h : queueOrdered x) {left : List Entry} (kept : left.Sublist x.queue) {y : Lane}
    (hq : y.queue = left) (hd : y.datum = x.datum) (hh : y.held = x.held) : queueOrdered y := by
  obtain ⟨after, sorted, heldDatum⟩ := h
  unfold queueOrdered
  rw [hq, hd, hh]
  exact ⟨fun e he => after e (kept.subset he), sorted.sublist (kept.map _), heldDatum⟩

/-- A selected entry becomes the datum; what stays lies beyond it (R78, R85, R111). -/
theorem queueOrdered_selectEntry {x : Lane} (h : queueOrdered x) {e : Entry} {passed left : List Entry}
    (kept : left.Sublist x.queue)
    (later : ∀ y ∈ left, distance x.datum e.release < distance x.datum y.release) :
    queueOrdered (selectEntry e passed left x).lane := by
  obtain ⟨after, sorted, -⟩ := h
  have hrest {y : Entry} (hy : y ∈ left) :
      distance e.release y.release = distance x.datum y.release - distance x.datum e.release :=
    distance_from (later y hy).le
  refine ⟨fun y hy => ?_, ?_, by simp [selectEntry]⟩
  · change strictlyAfter y.release e.release = true
    have hlater := later y hy
    have hafter := (strictlyAfter_iff).mp (after y (kept.subset hy))
    rw [strictlyAfter_iff, hrest hy]
    omega
  · change (left.map fun y => distance e.release y.release).Pairwise (· ≤ ·)
    have hsorted := sorted.sublist (kept.map _)
    rw [List.pairwise_map] at hsorted ⊢
    refine hsorted.imp_of_mem fun {y z} hy hz hyz => ?_
    rw [hrest hy, hrest hz]
    omega

/-! ## The shape of a lane (R98, R100, R106) -/

theorem legalAfter_stop (c : LastCommand) : legalAfter .stop c = false := by cases c <;> rfl

theorem lastOf_ne_none (c : Command) : lastOf c ≠ .none := by cases c <;> simp [lastOf]

/-- A lane without waiting commands has its command queue in order. -/
theorem commandsOk_of_nil {x : Lane} (h : x.commands = []) : commandsOk x := by
  simp [commandsOk, h]

/-- A lane in a state that admits units. -/
theorem admitting_cases {st : LaneState} (h : admitsUnits st = true) : st ≠ .idle ∧ st ≠ .draining ∧ st ≠ .parked := by
  refine ⟨?_, ?_, ?_⟩ <;> rintro rfl <;> cases h

/-- R106: a lane that passes the arrival's checks. -/
theorem arrivalFailure_eq_none {x : Lane} {c : Command} (h : arrivalFailure x c = none) :
    x.state ≠ .idle ∧ x.state ≠ .parked ∧ legalAfter x.last (lastOf c) = true ∧ x.commands.length < 4 := by
  unfold arrivalFailure at h
  split at h
  · cases h
  · next hst =>
    split at h
    · cases h
    · next hlegal =>
      split at h
      · cases h
      · next hroom =>
        simp only [not_or] at hst
        refine ⟨hst.1, hst.2, by simpa using hlegal, ?_⟩
        simpa [Config.commandPlaces] using hroom

/-- An accepted command joins the queue as its newest (R106, R107). -/
theorem laneShape_commanded {x : Lane} (h : laneShape x) {c : Command} (accepted : arrivalFailure x c = none) :
    laneShape { x with commands := x.commands ++ [c], last := lastOf c } := by
  obtain ⟨hqueue, ⟨hlen, hchain, hlast⟩, -, -, hdraining, -⟩ := h
  obtain ⟨hidle, hparked, hlegal, hroom⟩ := arrivalFailure_eq_none accepted
  refine ⟨hqueue, ⟨?_, ?_, by simp⟩, fun h => absurd h hidle, fun _ => lastOf_ne_none c, fun h => ?_,
    fun h => absurd h hparked⟩
  · simp only [List.length_append, List.length_singleton]
    omega
  · simp only [List.map_append, List.map_cons, List.map_nil]
    refine hchain.append (List.isChain_singleton _) fun a ha b hb => ?_
    simp only [List.head?_cons, Option.mem_def, Option.some.injEq] at hb
    subst hb
    rw [List.getLast?_map] at ha
    obtain ⟨d, hd, rfl⟩ := Option.map_eq_some_iff.mp ha
    rwa [← hlast d (by simpa using hd)]
  · rw [(hdraining h).2.1, legalAfter_stop] at hlegal
    cases hlegal

/-- The head command taken; behind a STOP none can stand (R107, R109). -/
theorem laneShape_takeCommand {x : Lane} (h : laneShape x) (l : LaneId) : laneShape (takeCommand l x).1 := by
  rcases hc : x.commands with _ | ⟨c, rest⟩
  · rwa [takeCommand_nil hc]
  · by_cases hadmits : admitsUnits x.state = true
    · rw [takeCommand_cons hc hadmits]
      obtain ⟨hqueue, ⟨hlen, hchain, hlast⟩, -, hnone, -, -⟩ := h
      rw [hc] at hlen hchain hlast
      have hactive := (admitting_cases hadmits).1
      have hrest : (rest.map lastOf).IsChain fun a b => legalAfter a b = true := by
        rw [List.map_cons] at hchain
        exact hchain.tail
      have hnewest : ∀ d ∈ rest.getLast?.toList, x.last = lastOf d := by
        intro d hd
        refine hlast d ?_
        cases rest with
        | nil => cases hd
        | cons b more => simpa using hd
      refine ⟨hqueue, ⟨by simp at hlen ⊢; omega, hrest, hnewest⟩, fun h => ?_, fun _ => hnone hactive, fun h => ?_,
        fun h => ?_⟩
      · cases c <;> cases h
      · cases c with
        | stop mode =>
          have hempty : rest = [] := by
            cases rest with
            | nil => rfl
            | cons b more =>
              simp only [List.map_cons, List.isChain_cons_cons] at hchain
              obtain ⟨hlegal, -⟩ := hchain
              rw [show lastOf (.stop mode) = .stop from rfl, legalAfter_stop] at hlegal
              cases hlegal
          subst hempty
          exact ⟨rfl, hlast (.stop mode) (by simp), by simp [commandStopMode]⟩
        | _ => cases h
      · cases c <;> cases h
    · have : takeCommand l x = (x, []) := by simp [takeCommand, hc, hadmits]
      rwa [this]

theorem LaneTouch.keeps_shape {x y : Lane} (h : LaneTouch D x y) (shape : laneShape x) : laneShape y := by
  have ⟨hqueue, hcommands, hidle, hnone, hdraining, hparked⟩ := shape
  cases h with
  | same => exact shape
  | marked => exact shape
  | aged => exact shape
  | configured => exact shape
  | sourced => exact shape
  | commanded accepted => exact laneShape_commanded shape accepted
  | taken l => exact laneShape_takeCommand shape l
  | settled old_admits new_admits =>
    have hold := admitting_cases old_admits
    have hnew := admitting_cases new_admits
    exact ⟨hqueue, hcommands, fun h => absurd h hnew.1, fun _ => hnone (hold).1, fun h => absurd h hnew.2.1,
      fun h => absurd h hnew.2.2⟩
  | parkedLast draining empty =>
    obtain ⟨hnil, hlast, -⟩ := hdraining draining
    exact ⟨hqueue, hcommands, nofun, fun _ => by simp [hlast], nofun, fun _ => ⟨empty, hnil, hlast⟩⟩
  | advanced active => exact ⟨hqueue, hcommands, fun h => absurd h active, hnone, hdraining, hparked⟩
  | reanchored delta =>
    unfold reanchor
    split
    · exact shape
    · next active => exact ⟨hqueue, hcommands, fun h => absurd h active, hnone, hdraining, hparked⟩

/-- A lane that gives up no block keeps its queue, its datum and its held unit. -/
theorem LaneTouch.queue_eq {x y : Lane} (h : LaneTouch D x y) : y.queue = x.queue ∧ y.datum = x.datum ∧ y.held = x.held := by
  cases h with
  | taken l =>
    rw [takeCommand_lane]
    exact ⟨rfl, rfl, rfl⟩
  | reanchored delta =>
    unfold reanchor
    split <;> exact ⟨rfl, rfl, rfl⟩
  | _ => exact ⟨rfl, rfl, rfl⟩

/-- A lane emptied to IDLE has the shape of an IDLE lane. -/
theorem laneShape_emptied (x : Lane) : laneShape (emptied x) := by
  simp [laneShape, emptied, commandsOk]

/-- Without entries and without a unit nothing is out of order. -/
theorem queueOrdered_of_empty {x : Lane} (hq : x.queue = []) (hh : x.held = none) : queueOrdered x := by
  simp [queueOrdered, hq, hh]

/-- Entries taken out of the queue leave the shape. -/
theorem laneShape_sublist {x : Lane} (h : laneShape x) {left : List Entry} (kept : left.Sublist x.queue) :
    laneShape { x with queue := left } := by
  obtain ⟨hqueue, hcommands, hidle, hnone, hdraining, hparked⟩ := h
  have hnil (hq : x.queue = []) : left = [] := List.sublist_nil.mp (hq ▸ kept)
  exact ⟨kept.length_le.trans hqueue, hcommands, fun h => ⟨hnil (hidle h).1, (hidle h).2⟩, hnone, hdraining,
    fun h => ⟨hnil (hparked h).1, (hparked h).2⟩⟩

theorem startFailure_eq_none {x : Lane} {t : TimeBase} {anchor : Tick} (h : startFailure x t anchor = none) :
    t.isSet = true ∧ (x.state = .idle ∨ x.state = .parked) := by
  unfold startFailure at h
  split at h
  · cases h
  · next hset =>
    split at h
    · cases h
    · next hst => exact ⟨by simpa using hset, by by_contra hno; exact hst (by simpa [not_or] using hno)⟩

/-- LANE_SOURCE with a cut: the queue that stays, the configuration and the counters (R92). -/
theorem switchSource_of_cut {a : LaneSourceArgs} (h : a.cut = true) (x : Lane) :
    (switchSource a x).1 =
      { x with
        queue := x.queue.filter fun e => e.flow != x.config.source
        config := { x.config with source := a.flow }, counters := (switchSource a x).1.counters } := by
  simp [switchSource, h]

/-- A START finds no entry and no command (R98, R101). -/
theorem empty_of_startFailure {x : Lane} {t : TimeBase} {anchor : Tick} (accepted : startFailure x t anchor = none)
    (shape : laneShape x) : x.queue = [] ∧ x.commands = [] := by
  obtain ⟨-, -, hidle, -, -, hparked⟩ := shape
  rcases (startFailure_eq_none accepted).2 with h | h
  · obtain ⟨hq, -, hc, -⟩ := hidle h
    exact ⟨hq, hc⟩
  · obtain ⟨hq, hc, -⟩ := hparked h
    exact ⟨hq, hc⟩

theorem LaneDrop.keeps_shape {x y : Lane} {fx : List Effect} (h : LaneDrop D clock x y fx) (shape : laneShape x) : laneShape y := by
  have ⟨hqueue, hcommands, hidle, hnone, hdraining, hparked⟩ := shape
  cases h with
  | cut _ isCut =>
    rw [switchSource_of_cut isCut]
    exact laneShape_sublist shape List.filter_sublist
  | started _ l accepted =>
    obtain ⟨-, hc⟩ := empty_of_startFailure accepted shape
    exact ⟨hqueue, commandsOk_of_nil hc, nofun, fun _ => nofun, nofun, nofun⟩
  | halted l =>
    unfold haltLane
    split
    · exact shape
    · exact laneShape_emptied x
  | restarted _ scope => cases scope <;> exact laneShape_emptied x
  | frameLeft => exact shape
  | selected active parts kept later =>
    obtain ⟨h1, h2, -, h4, h5, h6⟩ := laneShape_sublist shape kept
    exact ⟨h1, h2, fun h => absurd h active, h4, h5, h6⟩
  | skipped parts kept => exact laneShape_sublist shape kept
  | parkedFill draining empty =>
    obtain ⟨hnil, hlast, -⟩ := hdraining draining
    exact ⟨hqueue, hcommands, nofun, fun _ => by simp [hlast], nofun, fun _ => ⟨empty, hnil, hlast⟩⟩

theorem LaneDrop.keeps_order {x y : Lane} {fx : List Effect} (h : LaneDrop D clock x y fx) (shape : laneShape x)
    (order : queueOrdered x) : queueOrdered y := by
  cases h with
  | cut _ isCut =>
    rw [switchSource_of_cut isCut]
    exact queueOrdered_sublist order List.filter_sublist rfl rfl rfl
  | started _ l accepted => exact queueOrdered_of_empty (empty_of_startFailure accepted shape).1 rfl
  | halted l =>
    unfold haltLane
    split
    · exact order
    · exact queueOrdered_of_empty rfl rfl
  | restarted _ scope => cases scope <;> exact queueOrdered_of_empty rfl rfl
  | frameLeft => exact order
  | selected active parts kept later => exact queueOrdered_selectEntry order kept (later order)
  | skipped parts kept => exact queueOrdered_sublist order kept rfl rfl rfl
  | parkedFill draining empty => exact queueOrdered_of_empty empty rfl

/-! ### The tests of R57 in the words of the statements -/

theorem isCandidate_iff {m : Media} {x : Lane} : isCandidate m.flow x = true ↔ candidate m x := by
  unfold isCandidate candidate
  cases x.state <;> simp [admitsUnits]

/-- The first failing test of a lane decides (R57). -/
theorem testLane_cases (x : Lane) (tb : Tick) (m : Media) :
    (testLane x tb m = .late ∧ refusedLate m x) ∨ (testLane x tb m = .early ∧ refusedEarly tb m x) ∨
      (testLane x tb m = .queueFull ∧ refusedQueueFull tb m x) ∨ (testLane x tb m = .quota ∧ refusedQuota tb m x) ∨
      (testLane x tb m = .pass ∧ ¬ refusedLate m x ∧ ¬ refusedEarly tb m x ∧ x.queue.length < 64 ∧
        charge x + (m.payload.length + 31) / 32 ≤ x.config.quota.toNat) := by
  have hlate : strictlyAfter (releaseTime x.config m.pts) x.datum = false ↔ refusedLate m x := by simp [releaseTime]
  by_cases h1 : refusedLate m x
  · exact .inl ⟨by rw [testLane]; exact if_pos (hlate.mpr h1), h1⟩
  have hearly : (atOrBefore (releaseTime x.config m.pts) tb = false ∧
      Config.horizon < distance tb (releaseTime x.config m.pts)) ↔ refusedEarly tb m x := by
    rw [refusedEarly, and_iff_right h1]
    simp [releaseTime, Config.horizon]
  have h1' : testLane x tb m = if atOrBefore (releaseTime x.config m.pts) tb = false ∧
      Config.horizon < distance tb (releaseTime x.config m.pts) then .early
      else if Config.queueEntries ≤ x.queue.length then .queueFull
      else if x.config.quota.toNat < charge x + cellsFor m.payload.length then .quota else .pass := by
    rw [testLane]
    exact if_neg (hlate.not.mpr h1)
  by_cases h2 : refusedEarly tb m x
  · exact .inr (.inl ⟨by rw [h1', if_pos (hearly.mpr h2)], h2⟩)
  rw [if_neg (hearly.not.mpr h2)] at h1'
  by_cases h3 : 64 ≤ x.queue.length
  · exact .inr (.inr (.inl ⟨by rw [h1']; exact if_pos h3, h1, h2, h3⟩))
  have h3' : x.queue.length < 64 := Nat.not_le.mp h3
  rw [if_neg (show ¬ Config.queueEntries ≤ x.queue.length from h3)] at h1'
  by_cases h4 : x.config.quota.toNat < charge x + (m.payload.length + 31) / 32
  · exact .inr (.inr (.inr (.inl ⟨by rw [h1']; exact if_pos h4, h1, h2, h3', h4⟩)))
  · exact .inr (.inr (.inr (.inr ⟨by rw [h1']; exact if_neg h4, h1, h2, h3', Nat.not_lt.mp h4⟩)))

/-- A lane that passes the tests, in the words of the statements (R56, R57). -/
theorem lanePasses_iff {m : Media} {tb : Tick} {x : Lane} : lanePasses m tb x = true ↔ passes tb m x := by
  simp only [lanePasses, Bool.and_eq_true, isCandidate_iff, passes, and_congr_right_iff]
  intro _
  rcases testLane_cases x tb m with ⟨ht, h⟩ | ⟨ht, h⟩ | ⟨ht, h⟩ | ⟨ht, h⟩ | ⟨ht, h⟩
  · simp only [ht, reduceCtorEq, decide_false, Bool.false_eq_true, false_iff]
    exact fun hpass => hpass.1 h
  · simp only [ht, reduceCtorEq, decide_false, Bool.false_eq_true, false_iff]
    exact fun hpass => hpass.2.1 h
  · simp only [ht, reduceCtorEq, decide_false, Bool.false_eq_true, false_iff]
    exact fun hpass => absurd hpass.2.2.1 (Nat.not_lt.mpr h.2.2)
  · simp only [ht, reduceCtorEq, decide_false, Bool.false_eq_true, false_iff]
    exact fun hpass => absurd hpass.2.2.2 (Nat.not_le.mpr h.2.2.2)
  · simpa only [ht, decide_true, true_iff] using h

theorem laneShape_insertedLane {x : Lane} (shape : laneShape x) {m : Media} {tb : Tick} (p : PortId) (ref : Nat)
    (passes : lanePasses m tb x = true) : laneShape (insertedLane m p ref x) := by
  obtain ⟨hqueue, hcommands, hidle, hnone, hdraining, hparked⟩ := shape
  obtain ⟨candidate, -, -, hroom, -⟩ := (lanePasses_iff).mp passes
  have hadmits : admitsUnits x.state = true := by
    have := (isCandidate_iff).mpr candidate
    simp only [isCandidate, Bool.and_eq_true] at this
    exact this.2
  obtain ⟨hidle', hdraining', hparked'⟩ := admitting_cases hadmits
  refine ⟨?_, hcommands, fun h => absurd h hidle', hnone, fun h => absurd h hdraining', fun h => absurd h hparked'⟩
  change (insertEntry x.datum (entryFor x.config m p ref) x.queue).length ≤ 64
  rw [(insertEntry_inserted _ _ _).length_eq]
  omega

theorem queueOrdered_insertedLane {x : Lane} (order : queueOrdered x) {m : Media} {tb : Tick} (p : PortId) (ref : Nat)
    (passes : lanePasses m tb x = true) : queueOrdered (insertedLane m p ref x) := by
  obtain ⟨after, sorted, heldDatum⟩ := order
  obtain ⟨-, hlater, -⟩ := (lanePasses_iff).mp passes
  refine ⟨fun e he => ?_, (insertEntry_inserted _ _ _).pairwise_le sorted, heldDatum⟩
  rcases (insertEntry_inserted _ _ _).mem_iff.mp he with rfl | he
  · exact not_not.mp hlater
  · exact after e he

theorem laneShape_resetLane : laneShape resetLane := by
  simp [laneShape, resetLane, commandsOk]

theorem LaneMove.keeps_shape {x y : Lane} (h : LaneMove x y) (shape : laneShape x) : laneShape y := by
  cases h with
  | touch h => exact h.keeps_shape shape
  | drop h => exact h.keeps_shape shape
  | framed f => exact shape
  | inserted p ref passes => exact laneShape_insertedLane shape p ref passes
  | reset => exact laneShape_resetLane

theorem LaneMove.keeps_order {x y : Lane} (h : LaneMove x y) (shape : laneShape x) (order : queueOrdered x) :
    queueOrdered y := by
  cases h with
  | touch h =>
    obtain ⟨hqueue, hdatum, hheld⟩ := h.queue_eq
    unfold queueOrdered
    rwa [hqueue, hdatum, hheld]
  | drop h => exact h.keeps_order shape order
  | framed f => exact order
  | inserted p ref passes => exact queueOrdered_insertedLane order p ref passes
  | reset => exact queueOrdered_of_empty rfl rfl

/-- Settles O56: each move of a lane keeps its shape and the order of its queue. -/
theorem stepKeepsLanes : Obligations.StepKeepsLanes := by
  intro s t hshape horder h
  have hkept := lanes_step_keeps (P := fun x => laneShape x ∧ queueOrdered x)
    (fun _ _ hxy hx => ⟨hxy.keeps_shape hx.1, hxy.keeps_order hx.1 hx.2⟩) (fun l => ⟨hshape l, horder l⟩) h
  exact ⟨fun l => (hkept l).1, fun l => (hkept l).2⟩

/-! ## Charge, configuration and grid (R55, R75, R81) -/

/-- A lane with its shape, its charge within its quota, its configuration in range and its grid remainder below CD. -/
def laneWithin (x : Lane) : Prop := laneShape x ∧ charge x ≤ x.config.quota.toNat ∧ gridOk x

theorem cd_of_configValid {c : LaneConfig} (h : configValid c = true) : 1 ≤ c.cd.toNat := by
  simp only [configValid, decide_eq_true_eq] at h
  obtain ⟨-, -, -, hcd, -⟩ := h
  exact hcd

theorem configValid_sourced {c : LaneConfig} (h : configValid c = true) {f : Word} (hf : f ≠ 0xFFFF) :
    configValid { c with source := f } = true := by
  simp only [configValid, decide_eq_true_eq] at h ⊢
  exact ⟨hf, h.2⟩

theorem charge_of_idle {x : Lane} (h : laneShape x) (idle : x.state = .idle) : charge x = 0 := by
  obtain ⟨-, -, hidle, -⟩ := h
  obtain ⟨hqueue, hheld, -⟩ := hidle idle
  simp [charge, hqueue, hheld]

/-- The grid's remainder stays below CD (R81). -/
theorem gridOk_advanceGrid {x : Lane} (h : configValid x.config = true) : gridOk (advanceGrid x) := by
  refine ⟨h, ?_⟩
  have hcd := cd_of_configValid h
  have hmod := Nat.mod_lt (x.remainder.toNat + x.config.cn.toNat) hcd
  have hword := x.config.cd.isLt
  simp only [advanceGrid, word, BitVec.toNat_ofNat]
  omega

theorem LaneTouch.keeps_within {x y : Lane} (h : LaneTouch D x y) (hx : laneWithin x) : laneWithin y := by
  obtain ⟨shape, within, grid⟩ := hx
  refine ⟨h.keeps_shape shape, ?_⟩
  cases h with
  | same => exact ⟨within, grid⟩
  | marked => exact ⟨within, grid⟩
  | aged => exact ⟨within, grid⟩
  | @configured c _ idle valid =>
    have hcharge : charge { x with config := c } = 0 := charge_of_idle shape idle
    obtain ⟨-, -, hidle, -⟩ := shape
    obtain ⟨-, -, -, -, -, -, hzero, -⟩ := hidle idle
    refine ⟨by rw [hcharge]; exact Nat.zero_le _, valid, ?_⟩
    change x.remainder.toNat < c.cd.toNat
    rw [hzero]
    exact cd_of_configValid valid
  | sourced _ valid => exact ⟨within, configValid_sourced grid.1 valid, grid.2⟩
  | commanded accepted => exact ⟨within, grid⟩
  | taken l =>
    rw [takeCommand_lane]
    exact ⟨within, grid⟩
  | settled => exact ⟨within, grid⟩
  | parkedLast => exact ⟨within, grid⟩
  | advanced active => exact ⟨within, gridOk_advanceGrid grid.1⟩
  | reanchored delta =>
    unfold reanchor
    split <;> exact ⟨within, grid⟩

/-- Fewer entries charge no more. -/
theorem charge_sublist {x : Lane} {left : List Entry} (kept : left.Sublist x.queue) :
    (left.map (·.cells)).sum + (x.held.toList.map (·.cells)).sum ≤ charge x :=
  Nat.add_le_add_right ((kept.map _).sum_le_sum (by simp)) _

/-- A selected entry is charged as it was in the queue. -/
theorem charge_selectEntry {x : Lane} {e : Entry} {passed left : List Entry} (parts : x.queue.Perm (passed ++ e :: left)) :
    charge (selectEntry e passed left x).lane ≤ charge x := by
  have hsum : (x.queue.map (·.cells)).sum = (passed.map (·.cells)).sum + (e.cells + (left.map (·.cells)).sum) := by
    rw [(parts.map _).sum_eq]
    simp
  simp only [charge, selectEntry, hsum, Option.toList_some, List.map_cons, List.map_nil, List.sum_cons, List.sum_nil]
  omega

theorem gridOk_default : gridOk resetLane := ⟨by decide, by decide⟩

theorem LaneDrop.keeps_within {x y : Lane} {fx : List Effect} (h : LaneDrop D clock x y fx) (hx : laneWithin x) : laneWithin y := by
  obtain ⟨shape, within, grid⟩ := hx
  refine ⟨h.keeps_shape shape, ?_⟩
  have hcd : 0 < x.config.cd.toNat := cd_of_configValid grid.1
  cases h with
  | @cut a _ isCut valid =>
    rw [switchSource_of_cut isCut]
    exact ⟨(charge_sublist List.filter_sublist).trans within, configValid_sourced grid.1 valid, grid.2⟩
  | started _ l accepted => exact ⟨(Nat.add_le_add_left (Nat.zero_le _) _).trans within, grid.1, hcd⟩
  | halted l =>
    unfold haltLane
    split
    · exact ⟨within, grid⟩
    · exact ⟨Nat.zero_le _, grid.1, hcd⟩
  | restarted _ scope =>
    cases scope with
    | lanes => exact ⟨Nat.zero_le _, grid.1, hcd⟩
    | full => exact ⟨Nat.zero_le _, gridOk_default⟩
  | frameLeft => exact ⟨within, grid⟩
  | selected active parts => exact ⟨(charge_selectEntry parts).trans within, grid⟩
  | skipped parts kept => exact ⟨(charge_sublist kept).trans within, grid⟩
  | parkedFill => exact ⟨(Nat.add_le_add_left (Nat.zero_le _) _).trans within, grid⟩

theorem charge_insertedLane (m : Media) (p : PortId) (ref : Nat) (x : Lane) :
    charge (insertedLane m p ref x) = charge x + cellsFor m.payload.length := by
  have hsum := ((insertEntry_inserted x.datum (entryFor x.config m p ref) x.queue).perm.map (·.cells)).sum_eq
  simp only [charge, insertedLane, hsum, List.map_cons, List.sum_cons]
  simp only [entryFor]
  omega

theorem LaneMove.keeps_within {x y : Lane} (h : LaneMove x y) (hx : laneWithin x) : laneWithin y := by
  cases h with
  | touch h => exact h.keeps_within hx
  | drop h => exact h.keeps_within hx
  | framed f => exact hx
  | @inserted m tb p ref passes =>
    obtain ⟨shape, within, grid⟩ := hx
    refine ⟨laneShape_insertedLane shape p ref passes, ?_, grid⟩
    rw [charge_insertedLane]
    obtain ⟨-, -, -, -, hquota⟩ := (lanePasses_iff).mp passes
    exact hquota
  | reset => exact ⟨laneShape_resetLane, Nat.zero_le _, gridOk_default⟩

/-- Settles O57: a charge grows by placement alone, which tests it; configurations come from forms that check them. -/
theorem stepKeepsChargesAndGrids : Obligations.StepKeepsChargesAndGrids := by
  intro s t hshape hcharge hgrid h
  have hkept := lanes_step_keeps (P := laneWithin) (fun _ _ => LaneMove.keeps_within)
    (fun l => ⟨hshape l, hcharge l, hgrid l⟩) h
  exact ⟨fun l => (hkept l).2.1, fun l => (hkept l).2.2⟩

end Sys2Proof.Elementary
end


section
/-! The store and its holders under every move (O55). -/

namespace Sys2Proof.Elementary

open Sys2Proof.Machine Sys2Proof.Safety Sys2Proof.Placement

variable {D : Prop} {clock : TimeBase}

/-! ## Records by their number -/

/-- In a store whose records stand in ascending number, a record is the one its number names. -/
theorem recordOf_of_mem {st : Store} (sorted : (st.records.map fun r => r.ref).Pairwise (· < ·)) {r : Record}
    (h : r ∈ st.records) : recordOf st r.ref = some r := by
  unfold recordOf
  induction hrs : st.records generalizing st with
  | nil => rw [hrs] at h; cases h
  | cons x rs ih =>
    rw [hrs, List.map_cons, List.pairwise_cons] at sorted
    obtain ⟨hx, hrest⟩ := sorted
    rw [hrs] at h
    rcases List.mem_cons.mp h with rfl | hmem
    · simp
    · have hne : x.ref ≠ r.ref := (hx _ (List.mem_map_of_mem hmem)).ne
      rw [List.find?_cons_of_neg (by simpa using hne)]
      exact ih (st := { st with records := rs }) hrest hmem rfl

theorem mem_of_recordOf {st : Store} {ref : Nat} {r : Record} (h : recordOf st ref = some r) :
    r ∈ st.records ∧ r.ref = ref :=
  ⟨List.mem_of_find?_eq_some h, by simpa using List.find?_some h⟩

theorem recordOf_eq_none {st : Store} {ref : Nat} (h : recordOf st ref = none) : ∀ r ∈ st.records, r.ref ≠ ref := by
  simpa [recordOf] using h

/-- The record taken out and those that stay make up the store. -/
theorem records_perm_drop {rs : List Record} (sorted : (rs.map fun r => r.ref).Pairwise (· < ·)) {r : Record} (h : r ∈ rs) :
    rs.Perm (r :: rs.filter fun x => x.ref != r.ref) := by
  have hnodup : (rs.map fun r => r.ref).Nodup := sorted.imp fun hlt => ne_of_lt hlt
  have hfilter : rs.filter (fun x => x.ref != r.ref) = rs.erase r := by
    rw [hnodup.of_map.erase_eq_filter]
    refine List.filter_congr fun x hx => ?_
    have : x.ref = r.ref ↔ x = r := ⟨fun heq => List.inj_on_of_nodup_map hnodup hx h heq, fun heq => by rw [heq]⟩
    simp [bne, this]
  rw [hfilter]
  exact List.perm_cons_erase h

theorem insertRecord_inserted (x : Record) (rs : List Record) : InsertedBy (fun r => r.ref) x rs (insertRecord x rs) := by
  induction rs with
  | nil => exact .front (by simp)
  | cons r rs ih =>
    unfold insertRecord
    split
    · next h => exact .front (by simpa using h)
    · next h => exact ih.cons (Nat.not_lt.mp h)

/-- The next stored block's number is no record's (log entry 13). -/
theorem freshRef_not_mem {k : Nat} {rs : List Record} (sorted : (rs.map fun r => r.ref).Pairwise (· < ·))
    (above : ∀ r ∈ rs, k ≤ r.ref) : ∀ r ∈ rs, r.ref ≠ freshRef k rs := by
  induction rs generalizing k with
  | nil => simp
  | cons x rs ih =>
    rw [List.map_cons, List.pairwise_cons] at sorted
    obtain ⟨hx, hrest⟩ := sorted
    have hbeyond : ∀ r ∈ rs, x.ref < r.ref := fun r hr => hx _ (List.mem_map_of_mem hr)
    unfold freshRef
    split
    · next heq =>
      have hfresh := ih (k := k + 1) hrest fun r hr => heq ▸ hbeyond r hr
      have hle : ∀ (n : Nat) (l : List Record), n ≤ freshRef n l := by
        intro n l
        induction l generalizing n with
        | nil => exact Nat.le_refl _
        | cons y l ihl =>
          unfold freshRef
          split
          · exact (Nat.le_succ n).trans (ihl (n + 1))
          · exact Nat.le_refl _
      intro r hr
      rcases List.mem_cons.mp hr with rfl | hr
      · have := hle (k + 1) rs
        omega
      · exact hfresh r hr
    · next hne =>
      intro r hr
      have hk := above x (by simp)
      rcases List.mem_cons.mp hr with rfl | hr
      · exact hne
      · have := hbeyond r hr
        omega

theorem nextRef_not_mem {st : Store} (h : storeOk st) : ∀ r ∈ st.records, r.ref ≠ nextRef st :=
  freshRef_not_mem h.1 fun _ _ => Nat.zero_le _

/-! ## The store's accounting under its operations (R47, R50..R52) -/

theorem storeOk_storeBlock {st : Store} (h : storeOk st) {payload : List Word} {k : Nat} (hk : 1 ≤ k)
    (room : storeHasRoom st payload.length = true) : storeOk (storeBlock payload k st) := by
  obtain ⟨sorted, held, cells, count⟩ := h
  have hroom := of_decide_eq_true room
  have hinserted := insertRecord_inserted { ref := nextRef st, payload := payload, holders := k } st.records
  refine ⟨hinserted.pairwise_lt (nextRef_not_mem ⟨sorted, held, cells, count⟩) sorted, fun r hr => ?_, ?_, ?_⟩
  · rcases (hinserted.mem_iff).mp hr with rfl | hr
    · exact hk
    · exact held r hr
  · have hsum := (hinserted.perm.map recordCells).sum_eq
    simp only [List.map_cons, List.sum_cons, recordCells] at hsum cells
    simp only [storeBlock, hsum]
    omega
  · simp only [storeBlock, hinserted.length_eq]
    omega

theorem storeOk_dropRecord {st : Store} (h : storeOk st) {r : Record} (hr : r ∈ st.records) : storeOk (dropRecord r st) := by
  obtain ⟨sorted, held, cells, count⟩ := h
  have hperm := records_perm_drop sorted hr
  refine ⟨sorted.sublist (List.filter_sublist.map _), fun x hx => held x (List.mem_of_mem_filter hx), ?_, ?_⟩
  · have hsum := (hperm.map recordCells).sum_eq
    rw [List.map_cons, List.sum_cons] at hsum
    simp only [dropRecord]
    omega
  · have hlen := hperm.length_eq
    rw [List.length_cons] at hlen
    simp only [dropRecord]
    omega

theorem storeOk_mapHolders {st : Store} (h : storeOk st) {ref : Nat} {f : Nat → Nat}
    (hf : ∀ r ∈ st.records, r.ref = ref → 1 ≤ f r.holders) :
    storeOk { st with records := mapHolders ref f st.records } := by
  obtain ⟨sorted, held, cells, count⟩ := h
  have hrefs : (mapHolders ref f st.records).map (fun r => r.ref) = st.records.map fun r => r.ref := by
    simp only [mapHolders, List.map_map]
    refine List.map_congr_left fun r _ => ?_
    simp only [Function.comp]
    split <;> rfl
  have hcells : (mapHolders ref f st.records).map recordCells = st.records.map recordCells := by
    simp only [mapHolders, List.map_map]
    refine List.map_congr_left fun r _ => ?_
    simp only [Function.comp]
    split <;> rfl
  refine ⟨by rwa [hrefs], fun r hr => ?_, by rwa [hcells], by simpa [mapHolders] using count⟩
  obtain ⟨x, hx, rfl⟩ := List.mem_map.mp hr
  split
  · next heq => exact hf x hx heq
  · exact held x hx

/-! ## The holders a lane gives a block (R48) -/

/-- The releases of a block among a lane's effects. -/
def releaseCount (ref : Nat) (fx : List Effect) : Nat := fx.count (.release ref)

theorem releaseCount_append (ref : Nat) (fx more : List Effect) :
    releaseCount ref (fx ++ more) = releaseCount ref fx + releaseCount ref more := List.count_append

theorem releaseCount_releasesOf (ref : Nat) (es : List Entry) :
    releaseCount ref (releasesOf es) = es.countP fun e => e.block == ref := by
  simp only [releaseCount, releasesOf, List.count, List.countP_map]
  refine List.countP_congr fun e _ => ?_
  simp

theorem releaseCount_stateNotice (ref : Nat) (l : LaneId) (old new : LaneState) :
    releaseCount ref (stateNotice l old new) = 0 := by
  unfold stateNotice
  split <;> simp [releaseCount]

theorem releaseCount_frameRelease (ref : Nat) (x : Lane) :
    releaseCount ref (frameRelease x) = x.frame.toList.countP fun f => f.block == some ref := by
  unfold frameRelease
  rcases hf : x.frame with _ | f
  · rfl
  · rcases hb : f.block with _ | b
    · simp [hb, releaseCount]
    · simp [hb, releaseCount, List.count_singleton, List.countP_singleton]

/-- The queue entries and the held unit of a lane: what holds a block with an entry's cells. -/
def heldEntries (x : Lane) : List Entry := x.queue ++ x.held.toList

theorem laneHolders_eq (ref : Nat) (x : Lane) :
    laneHolders ref x =
      ((heldEntries x).countP fun e => e.block == ref) + x.frame.toList.countP fun f => f.block == some ref := by
  simp [laneHolders, heldEntries, List.countP_append]

/-- A lane that gives up no block holds what it held; its frame may be older. -/
theorem LaneTouch.frame_eq {x y : Lane} (h : LaneTouch D x y) : y.frame = x.frame ∨ y.frame = x.frame.map ageFrame := by
  cases h with
  | aged => exact .inr rfl
  | taken l =>
    rw [takeCommand_lane]
    exact .inl rfl
  | reanchored delta =>
    unfold reanchor
    split <;> exact .inl rfl
  | _ => exact .inl rfl

theorem LaneTouch.heldEntries_eq {x y : Lane} (h : LaneTouch D x y) : heldEntries y = heldEntries x := by
  obtain ⟨hqueue, -, hheld⟩ := h.queue_eq
  rw [heldEntries, heldEntries, hqueue, hheld]

theorem LaneTouch.laneHolders_eq {x y : Lane} (h : LaneTouch D x y) (ref : Nat) : laneHolders ref y = laneHolders ref x := by
  have hframe : (y.frame.toList.countP fun f => f.block == some ref) = x.frame.toList.countP fun f => f.block == some ref := by
    rcases h.frame_eq with heq | heq
    · rw [heq]
    · rw [heq]
      cases x.frame <;> rfl
  rw [Elementary.laneHolders_eq, Elementary.laneHolders_eq, h.heldEntries_eq, hframe]

/-- What a lane gives up it releases (R52). -/
theorem LaneDrop.laneHolders_eq {x y : Lane} {fx : List Effect} (h : LaneDrop D clock x y fx) (ref : Nat) :
    laneHolders ref y + releaseCount ref fx = laneHolders ref x := by
  cases h with
  | @cut a _ isCut =>
    have hfx : (switchSource a x).2 = releasesOf (x.queue.filter fun e => e.flow == x.config.source) := by
      simp [switchSource, isCut]
    have hsplit := List.countP_eq_countP_filter_add x.queue (fun e => e.block == ref) (fun e => e.flow == x.config.source)
    have hneg : (x.queue.filter fun e => !(e.flow == x.config.source)) = x.queue.filter fun e => e.flow != x.config.source := rfl
    rw [switchSource_of_cut isCut, hfx, releaseCount_releasesOf]
    simp only [laneHolders]
    simp only [hneg] at hsplit
    omega
  | started _ l =>
    simp only [startLane, laneHolders, releaseCount_append, releaseCount_releasesOf, releaseCount_stateNotice,
      Option.toList_none, List.countP_nil]
    omega
  | halted l =>
    unfold haltLane
    split
    · simp [releaseCount]
    · simp only [emptied, laneHolders, releaseCount_append, releaseCount_releasesOf, releaseCount_stateNotice,
        Option.toList_none, List.countP_nil]
      omega
  | restarted _ scope =>
    have hempty : laneHolders ref (laneAfterRestart scope x) = 0 := by cases scope <;> rfl
    rw [hempty, restartReleases, releaseCount_append, releaseCount_append, releaseCount_releasesOf, releaseCount_releasesOf,
      releaseCount_frameRelease, Nat.zero_add]
    rfl
  | frameLeft =>
    simp only [laneHolders, releaseCount_frameRelease, Option.toList_none, List.countP_nil]
    omega
  | selected active parts =>
    have hqueue := parts.countP_eq fun e => e.block == ref
    simp only [List.countP_append, List.countP_cons] at hqueue
    simp only [selectEntry, laneHolders, releaseCount_append, releaseCount_releasesOf, Option.toList_some, List.countP_cons,
      List.countP_nil]
    omega
  | skipped parts =>
    have hqueue := parts.countP_eq fun e => e.block == ref
    simp only [List.countP_append] at hqueue
    simp only [laneHolders, releaseCount_releasesOf]
    omega
  | parkedFill =>
    simp only [laneHolders, releaseCount_releasesOf, Option.toList_none, List.countP_nil]
    omega

/-- What a lane holds after giving up blocks it held before. -/
theorem LaneDrop.keeps_held {x y : Lane} {fx : List Effect} (h : LaneDrop D clock x y fx) :
    heldEntries y ⊆ heldEntries x ∧ y.frame.toList ⊆ x.frame.toList := by
  have hsub {left : List Entry} (kept : left.Sublist x.queue) : left ++ x.held.toList ⊆ heldEntries x :=
    (kept.append_right _).subset
  cases h with
  | cut _ isCut =>
    rw [switchSource_of_cut isCut]
    exact ⟨hsub List.filter_sublist, fun _ h => h⟩
  | started _ l => exact ⟨by simp [heldEntries, startLane], fun _ h => h⟩
  | halted l =>
    unfold haltLane
    split
    · exact ⟨fun _ h => h, fun _ h => h⟩
    · exact ⟨by simp [heldEntries, emptied], fun _ h => h⟩
  | restarted _ scope => exact ⟨by cases scope <;> exact List.nil_subset _, by cases scope <;> exact List.nil_subset _⟩
  | frameLeft => exact ⟨fun _ h => h, List.nil_subset _⟩
  | @selected e passed left active parts kept =>
    refine ⟨fun z hz => ?_, fun _ h => h⟩
    have hz' : z ∈ left ∨ z = e := by simpa [heldEntries, selectEntry] using hz
    refine List.mem_append_left _ ?_
    rw [parts.mem_iff]
    rcases hz' with hz | rfl <;> simp [*]
  | skipped parts kept => exact ⟨hsub kept, fun _ h => h⟩
  | parkedFill => exact ⟨by simp [heldEntries], fun _ h => h⟩

/-! ## The holders over all lanes -/

theorem laneHolders_le_holdersOf (s : State) (ref : Nat) (l : LaneId) : laneHolders ref (laneOf s l) ≤ holdersOf s ref :=
  List.single_le_sum (by simp) _ (List.mem_map_of_mem (List.mem_finRange l))

theorem holdersOf_congr {s t : State} (ref : Nat) (h : ∀ l, laneHolders ref (laneOf t l) = laneHolders ref (laneOf s l)) :
    holdersOf t ref = holdersOf s ref := by
  unfold holdersOf
  rw [List.map_congr_left fun l _ => h l]

theorem holdersOf_addHolder (ref : Nat) (s : State) (n : Nat) : holdersOf (addHolder ref s) n = holdersOf s n :=
  holdersOf_congr n fun l => by rw [laneOf_addHolder]

/-- A change of one lane's holders is a change of all. -/
theorem holdersOf_setLane (s : State) (ref : Nat) (l : LaneId) (y : Lane) :
    holdersOf (setLane l y s) ref + laneHolders ref (laneOf s l) = holdersOf s ref + laneHolders ref y := by
  have hsum (t : State) : holdersOf t ref = ∑ k, laneHolders ref (laneOf t k) := (Fin.sum_univ_def _).symm
  have hothers : ∑ k ∈ Finset.univ.erase l, laneHolders ref (laneOf (setLane l y s) k) =
      ∑ k ∈ Finset.univ.erase l, laneHolders ref (laneOf s k) :=
    Finset.sum_congr rfl fun k hk => by rw [laneOf_setLane_other (Finset.ne_of_mem_erase hk)]
  rw [hsum, hsum, ← Finset.add_sum_erase _ _ (Finset.mem_univ l), ← Finset.add_sum_erase _ _ (Finset.mem_univ l), hothers,
    laneOf_setLane_same]
  omega

/-! ## What holders name is stored (R48) -/

/-- The blocks a lane holds are stored, with its entries' cells and its frame's length. -/
def storedIn (st : Store) (x : Lane) : Prop :=
  (∀ e ∈ heldEntries x, ∃ r ∈ st.records, r.ref = e.block ∧ recordCells r = e.cells) ∧
    ∀ f ∈ x.frame.toList, ∀ ref ∈ f.block.toList, ∃ r ∈ st.records, r.ref = ref ∧ r.payload.length = f.length

theorem storedIn_of_subset {st : Store} {x y : Lane} (h : storedIn st x) (entries : heldEntries y ⊆ heldEntries x)
    (frame : y.frame.toList ⊆ x.frame.toList) : storedIn st y :=
  ⟨fun e he => h.1 e (entries he), fun f hf => h.2 f (frame hf)⟩

theorem LaneTouch.keeps_stored {x y : Lane} (h : LaneTouch D x y) {st : Store} (hx : storedIn st x) : storedIn st y := by
  refine ⟨by rw [h.heldEntries_eq]; exact hx.1, fun f hf ref href => ?_⟩
  rcases h.frame_eq with heq | heq
  · exact hx.2 f (heq ▸ hf) ref href
  · rw [heq] at hf
    rcases hframe : x.frame with _ | g
    · simp [hframe] at hf
    · have hfg : f = ageFrame g := by simpa [hframe] using hf
      subst hfg
      exact hx.2 g (by simp [hframe]) ref href

/-- A change of the store that keeps the payloads of the blocks a lane holds. -/
theorem storedIn_of_records {st st' : Store} {x : Lane} (h : storedIn st x)
    (keeps : ∀ r ∈ st.records, 1 ≤ laneHolders r.ref x → ∃ r' ∈ st'.records, r'.ref = r.ref ∧ r'.payload = r.payload) :
    storedIn st' x := by
  refine ⟨fun e he => ?_, fun f hf ref href => ?_⟩
  · obtain ⟨r, hr, hblock, hcells⟩ := h.1 e he
    have hpos : 0 < (heldEntries x).countP fun e => e.block == r.ref :=
      List.countP_pos_iff.mpr ⟨e, he, by simp [hblock]⟩
    obtain ⟨r', hr', href, hpayload⟩ := keeps r hr (by rw [laneHolders_eq]; omega)
    exact ⟨r', hr', href.trans hblock, by rw [← hcells, recordCells, recordCells, hpayload]⟩
  · obtain ⟨r, hr, hblock, hlen⟩ := h.2 f hf ref href
    have hpos : 0 < x.frame.toList.countP fun f => f.block == some r.ref := by
      refine List.countP_pos_iff.mpr ⟨f, hf, ?_⟩
      rw [hblock]
      simpa using href
    obtain ⟨r', hr', href', hpayload⟩ := keeps r hr (by rw [laneHolders_eq]; omega)
    exact ⟨r', hr', href'.trans hblock, by rw [hpayload, hlen]⟩

/-! ## The accounts while effects are still to be carried out -/

/-- The store's accounts, the releases among these effects still to come (R47, R48). -/
def accounted (fx : List Effect) (s : State) : Prop :=
  storeOk s.store ∧ (∀ r ∈ s.store.records, r.holders = holdersOf s r.ref + releaseCount r.ref fx) ∧
    ∀ l, storedIn s.store (laneOf s l)

theorem accounted_nil {s : State} : accounted [] s ↔ StoreOk s ∧ HoldersOk s := by
  simp only [accounted, releaseCount, List.count_nil, Nat.add_zero]
  rfl

/-- The last holder's release frees the block, which nobody holds any more (R52). -/
theorem accounted_dropRecord {ref : Nat} {fx : List Effect} {s : State} (h : accounted (.release ref :: fx) s) {r : Record}
    (hr : r ∈ s.store.records) (href : r.ref = ref) (last : r.holders ≤ 1) :
    accounted fx (setStore (dropRecord r s.store) s) := by
  obtain ⟨ok, counts, stored⟩ := h
  have hr_count := counts r hr
  simp only [href, releaseCount, List.count_cons_self] at hr_count
  refine ⟨storeOk_dropRecord ok hr, fun x hx => ?_, fun l => storedIn_of_records (stored l) fun x hx held => ⟨x, ?_, rfl, rfl⟩⟩
  · obtain ⟨hx, hne⟩ := List.mem_filter.mp hx
    have hne' : x.ref ≠ ref := by simpa [href] using hne
    have := counts x hx
    rwa [releaseCount, List.count_cons_of_ne (by simpa using hne'.symm)] at this
  · refine List.mem_filter.mpr ⟨hx, ?_⟩
    have hle := laneHolders_le_holdersOf s x.ref l
    have held' : 1 ≤ laneHolders x.ref (laneOf s l) := held
    simp only [bne_iff_ne, ne_eq, href]
    intro heq
    rw [heq] at hle held'
    omega

/-- A release that leaves holders (R52). -/
theorem accounted_mapHolders {ref : Nat} {fx : List Effect} {s : State} (h : accounted (.release ref :: fx) s) {r : Record}
    (hr : r ∈ s.store.records) (href : r.ref = ref) (more : 2 ≤ r.holders) :
    accounted fx (setStore { s.store with records := mapHolders ref (· - 1) s.store.records } s) := by
  obtain ⟨ok, counts, stored⟩ := h
  have hsame {x : Record} (hx : x ∈ s.store.records) (hxref : x.ref = ref) : x = r :=
    List.inj_on_of_nodup_map (ok.1.imp fun hlt => ne_of_lt hlt) hx hr (hxref.trans href.symm)
  refine ⟨storeOk_mapHolders ok fun x hx hxref => ?_, fun x hx => ?_,
    fun l => storedIn_of_records (stored l) fun x hx _ =>
      ⟨_, List.mem_map_of_mem (f := fun r => if r.ref = ref then { r with holders := r.holders - 1 } else r) hx, ?_, ?_⟩⟩
  · rw [hsame hx hxref]
    omega
  · obtain ⟨y, hy, rfl⟩ := List.mem_map.mp hx
    have hcount := counts y hy
    by_cases heq : y.ref = ref
    · rw [if_pos heq]
      rw [releaseCount, heq, List.count_cons_self] at hcount
      change y.holders - 1 = holdersOf s y.ref + List.count (.release y.ref) fx
      rw [heq]
      omega
    · rw [if_neg heq]
      rwa [releaseCount, List.count_cons_of_ne (by simpa using Ne.symm heq)] at hcount
  · split <;> rfl
  · split <;> rfl

theorem accounted_applyEffect {a : Effect} {fx : List Effect} {s : State} (h : accounted (a :: fx) s) :
    accounted fx (applyEffect s a) := by
  cases a with
  | request n =>
    obtain ⟨ok, counts, stored⟩ := h
    refine ⟨ok, fun r hr => ?_, stored⟩
    have := counts r hr
    rwa [releaseCount, List.count_cons_of_ne (by simp)] at this
  | release ref =>
    change accounted fx (release ref s)
    rcases hrec : recordOf s.store ref with _ | r
    · obtain ⟨ok, counts, stored⟩ := h
      rw [release_absent hrec]
      refine ⟨ok, fun r hr => ?_, stored⟩
      have := counts r hr
      rwa [releaseCount, List.count_cons_of_ne (by simpa using (recordOf_eq_none hrec r hr).symm)] at this
    · obtain ⟨hr, href⟩ := mem_of_recordOf hrec
      by_cases hlast : r.holders ≤ 1
      · rw [release_freed hrec hlast, judgeRecovery_eq]
        exact accounted_dropRecord h hr href hlast
      · have hmore : 2 ≤ r.holders := by omega
        rw [release_kept hrec hmore]
        exact accounted_mapHolders h hr href hmore

theorem accounted_applyEffects {fx : List Effect} {s : State} (h : accounted fx s) : accounted [] (applyEffects fx s) := by
  induction fx generalizing s with
  | nil => exact h
  | cons a rest ih => exact ih (accounted_applyEffect h)

/-! ## The accounts under every move -/

theorem accounted_drop {s : State} (h : accounted [] s) {l : LaneId} {y : Lane} {fx : List Effect}
    (drop : LaneDrop D clock (laneOf s l) y fx) : accounted [] (updateLane l (y, fx) s) := by
  obtain ⟨ok, counts, stored⟩ := h
  refine accounted_applyEffects (s := setLane l y s) ⟨ok, fun r hr => ?_, fun k => ?_⟩
  · have hcount := counts r hr
    have hall := holdersOf_setLane s r.ref l y
    have hlane := drop.laneHolders_eq r.ref
    simp only [releaseCount, List.count_nil] at hcount hlane ⊢
    omega
  · rw [laneOf_setLane]
    split
    · exact storedIn_of_subset (stored l) (drop.keeps_held).1 (drop.keeps_held).2
    · exact stored k

theorem accounted_lanes {s : State} (h : accounted [] s) {v : Vector Lane 16}
    (touch : ∀ l : LaneId, LaneTouch D (laneOf s l) v[l]) : accounted [] { s with lanes := v } := by
  obtain ⟨ok, counts, stored⟩ := h
  refine ⟨ok, fun r hr => ?_, fun l => (touch l).keeps_stored (stored l)⟩
  rw [counts r hr, holdersOf_congr (s := s) (t := { s with lanes := v }) r.ref fun l => (touch l).laneHolders_eq r.ref]

/-- A frame that begins holds its unit's block, as long as that block's payload (R51, R88). -/
theorem newFrame_block {kind : FrameKind} {slot : Tick} {x : Lane} {n ref : Nat}
    (h : (newFrame kind slot x n).block = some ref) :
    ∃ e, x.held = some e ∧ e.block = ref ∧ (newFrame kind slot x n).length = n := by
  unfold newFrame at h ⊢
  split at h
  · next e he => exact ⟨e, he, by simpa using h, rfl⟩
  · next e he => exact ⟨e, he, by simpa using h, rfl⟩
  · simp at h

theorem laneHolders_framed {x : Lane} (quiet : x.frame = none) (f : Frame) (ref : Nat) :
    laneHolders ref { x with frame := some f } = laneHolders ref x + if f.block = some ref then 1 else 0 := by
  simp only [laneHolders, quiet, Option.toList_some, Option.toList_none, List.countP_singleton, List.countP_nil, beq_iff_eq]
  omega

/-- The payload of a stored block. -/
theorem blockPayload_of_mem {st : Store} (ok : storeOk st) {r : Record} (hr : r ∈ st.records) :
    blockPayload st r.ref = r.payload := by
  simp [blockPayload, recordOf_of_mem ok.1 hr]

theorem storedIn_mapHolders {st : Store} {x : Lane} (h : storedIn st x) (ref : Nat) (f : Nat → Nat) :
    storedIn { st with records := mapHolders ref f st.records } x :=
  storedIn_of_records h fun r hr _ =>
    ⟨_, List.mem_map_of_mem (f := fun r => if r.ref = ref then { r with holders := f r.holders } else r) hr,
      by split <;> rfl, by split <;> rfl⟩

/-- A frame on a lane whose output is quiet, without a block or with the block of the lane's unit. -/
theorem accounted_frame {s : State} (h : accounted [] s) {l : LaneId} (kind : FrameKind) (slot : Tick)
    (quiet : (laneOf s l).frame = none) : accounted [] (beginFrame l kind slot s) := by
  obtain ⟨ok, counts, stored⟩ := h
  have hcount {f : Frame} (ref : Nat) : holdersOf (setLane l { laneOf s l with frame := some f } s) ref =
      holdersOf s ref + if f.block = some ref then 1 else 0 := by
    have := holdersOf_setLane s ref l { laneOf s l with frame := some f }
    rw [laneHolders_framed quiet] at this
    omega
  have hstored {f : Frame} (hf : ∀ ref ∈ f.block.toList, ∃ r ∈ s.store.records, r.ref = ref ∧ r.payload.length = f.length)
      (k : LaneId) : storedIn s.store (laneOf (setLane l { laneOf s l with frame := some f } s) k) := by
    rw [laneOf_setLane]
    split
    · exact ⟨(stored l).1, by simpa using hf⟩
    · exact stored k
  unfold beginFrame
  simp only
  split
  · next ref href =>
    obtain ⟨e, he, hblock, hlen⟩ := newFrame_block href
    have hheld : e ∈ heldEntries (laneOf s l) := by simp [heldEntries, he]
    obtain ⟨r, hr, hrref, -⟩ := (stored l).1 e hheld
    have hpayload : r.payload.length = heldLength s (laneOf s l) := by
      simp [heldLength, he, ← hrref, blockPayload_of_mem ok hr]
    refine ⟨storeOk_mapHolders ok fun x hx _ => Nat.le_add_left _ _, fun x hx => ?_, fun k => ?_⟩
    · obtain ⟨y, hy, rfl⟩ := List.mem_map.mp hx
      have hold := counts y hy
      have hnew := hcount (f := newFrame kind slot (laneOf s l) (heldLength s (laneOf s l))) y.ref
      rw [releaseCount, List.count_nil] at hold ⊢
      rw [href] at hnew
      by_cases heq : y.ref = ref
      · rw [if_pos (by rw [heq])] at hnew
        rw [if_pos heq, holdersOf_addHolder, hnew, hold]
      · rw [if_neg (by simpa using Ne.symm heq)] at hnew
        rw [if_neg heq, holdersOf_addHolder, hnew, hold]
    · exact storedIn_mapHolders (hstored (by simpa [href] using ⟨r, hr, hrref.trans hblock, hpayload.trans hlen.symm⟩) k) _ _
  · next hnone =>
    refine ⟨ok, fun x hx => ?_, hstored (by simp [hnone])⟩
    rw [hcount, hnone, if_neg (by simp), Nat.add_zero]
    exact counts x hx

/-- The part after a block has been stored and has entered the lanes that pass (R59). -/
def placed (m : Media) (p : PortId) (s : State) : State :=
  (passingLanes m s).foldl (insertAt m p (nextRef s.store))
    (setStore (storeBlock m.payload (passingLanes m s).length s.store) s)

theorem placed_store (m : Media) (p : PortId) (s : State) :
    (placed m p s).store = storeBlock m.payload (passingLanes m s).length s.store := by
  rw [placed, foldl_insertAt (nodup_passingLanes m s)]
  rfl

theorem laneOf_placed (m : Media) (p : PortId) (s : State) (l : LaneId) :
    laneOf (placed m p s) l =
      if l ∈ passingLanes m s then insertedLane m p (nextRef s.store) (laneOf s l) else laneOf s l := by
  rw [placed, foldl_insertAt (nodup_passingLanes m s)]
  simp [laneOf, lanesWith]

theorem heldEntries_insertedLane (m : Media) (p : PortId) (ref : Nat) (x : Lane) :
    (heldEntries (insertedLane m p ref x)).Perm (entryFor x.config m p ref :: heldEntries x) :=
  (insertEntry_inserted x.datum (entryFor x.config m p ref) x.queue).perm.append_right _

theorem laneHolders_insertedLane (m : Media) (p : PortId) (ref n : Nat) (x : Lane) :
    laneHolders n (insertedLane m p ref x) = laneHolders n x + if n = ref then 1 else 0 := by
  have hentries := (heldEntries_insertedLane m p ref x).countP_eq fun e => e.block == n
  have hblock : ((entryFor x.config m p ref).block == n) = decide (n = ref) := by
    simp [entryFor, Bool.beq_eq_decide_eq, eq_comm]
  rw [List.countP_cons, hblock] at hentries
  simp only [decide_eq_true_eq] at hentries
  rw [laneHolders_eq, laneHolders_eq, hentries]
  change _ + _ + List.countP _ x.frame.toList = _
  omega

/-- A block that no record has has no holder. -/
theorem holdersOf_eq_zero {s : State} (stored : ∀ l, storedIn s.store (laneOf s l)) {n : Nat}
    (absent : ∀ r ∈ s.store.records, r.ref ≠ n) : holdersOf s n = 0 := by
  have hzero (l : LaneId) : laneHolders n (laneOf s l) = 0 := by
    have hentries : ((heldEntries (laneOf s l)).countP fun e => e.block == n) = 0 := by
      refine List.countP_eq_zero.mpr fun e he heq => ?_
      obtain ⟨r, hr, href, -⟩ := (stored l).1 e he
      exact absent r hr (href.trans (by simpa using heq))
    have hframe : ((laneOf s l).frame.toList.countP fun f => f.block == some n) = 0 := by
      refine List.countP_eq_zero.mpr fun f hf heq => ?_
      obtain ⟨r, hr, href, -⟩ := (stored l).2 f hf n (by simpa using heq)
      exact absent r hr href
    rw [laneHolders_eq, hentries, hframe]
  have hlanes : (List.finRange 16).map (fun l => laneHolders n (laneOf s l)) = (List.finRange 16).map fun _ => 0 :=
    List.map_congr_left fun l _ => hzero l
  rw [holdersOf, hlanes]
  simp

theorem sum_indicator {α : Type} (p : α → Bool) (l : List α) :
    (l.map fun a => if p a = true then 1 else 0).sum = (l.filter p).length := by
  induction l with
  | nil => rfl
  | cons a l ih =>
    rw [List.map_cons, List.sum_cons, ih, List.filter_cons]
    split
    · rw [List.length_cons, Nat.add_comm]
    · rw [Nat.zero_add]

/-- Each lane that passes becomes a holder of the new block. -/
theorem holdersOf_placed (m : Media) (p : PortId) (s : State) (n : Nat) :
    holdersOf (placed m p s) n = holdersOf s n + if n = nextRef s.store then (passingLanes m s).length else 0 := by
  have hlane (l : LaneId) : laneHolders n (laneOf (placed m p s) l) =
      laneHolders n (laneOf s l) + if n = nextRef s.store then (if l ∈ passingLanes m s then 1 else 0) else 0 := by
    rw [laneOf_placed]
    by_cases hl : l ∈ passingLanes m s
    · rw [if_pos hl, if_pos hl, laneHolders_insertedLane]
    · simp [hl]
  have hlanes : (List.finRange 16).map (fun l => laneHolders n (laneOf (placed m p s) l)) =
      (List.finRange 16).map fun l => laneHolders n (laneOf s l) +
        if n = nextRef s.store then (if l ∈ passingLanes m s then 1 else 0) else 0 :=
    List.map_congr_left fun l _ => hlane l
  rw [holdersOf, hlanes, List.sum_map_add, ← holdersOf]
  split
  · simp only [mem_passingLanes]
    rw [sum_indicator fun l => lanePasses m s.time.tb (laneOf s l)]
    rfl
  · simp

/-- A block stored for the lanes that pass (R50, R59). -/
theorem accounted_placed {s : State} (h : accounted [] s) {m : Media} (p : PortId)
    (room : storeHasRoom s.store m.payload.length = true) (some_pass : passingLanes m s ≠ []) :
    accounted [] (placed m p s) := by
  obtain ⟨ok, counts, stored⟩ := h
  have hfresh := nextRef_not_mem ok
  have hrecords := insertRecord_inserted
    { ref := nextRef s.store, payload := m.payload, holders := (passingLanes m s).length } s.store.records
  have hkept (l : LaneId) : storedIn (placed m p s).store (laneOf s l) := by
    rw [placed_store]
    exact storedIn_of_records (stored l) fun r hr _ => ⟨r, (hrecords.mem_iff).mpr (.inr hr), rfl, rfl⟩
  refine ⟨?_, fun r hr => ?_, fun l => ?_⟩
  · rw [placed_store]
    exact storeOk_storeBlock ok (List.length_pos_of_ne_nil some_pass) room
  · rw [placed_store] at hr
    rw [holdersOf_placed]
    rcases (hrecords.mem_iff).mp hr with rfl | hr
    · simp [holdersOf_eq_zero stored hfresh, releaseCount]
    · rw [if_neg (hfresh r hr), Nat.add_zero]
      exact counts r hr
  · rw [laneOf_placed]
    split
    · refine ⟨fun e he => ?_, (hkept l).2⟩
      rcases List.mem_cons.mp ((heldEntries_insertedLane m p _ _).mem_iff.mp he) with rfl | he
      · rw [placed_store]
        exact ⟨_, (hrecords.mem_iff).mpr (.inl rfl), rfl, rfl⟩
      · exact (hkept l).1 e he
    · exact hkept l

theorem holdsNothing_iff {x : Lane} : holdsNothing x = true ↔ x.queue = [] ∧ x.held = none ∧ ∀ f ∈ x.frame, f.block = none := by
  simp only [holdsNothing, Bool.and_eq_true, List.isEmpty_iff, Option.isNone_iff_eq_none, and_assoc]
  cases x.frame <;> simp

theorem storedIn_of_holdsNothing {x : Lane} (h : holdsNothing x = true) (st : Store) : storedIn st x := by
  obtain ⟨hqueue, hheld, hframe⟩ := (holdsNothing_iff).mp h
  refine ⟨by simp [heldEntries, hqueue, hheld], fun f hf ref href => ?_⟩
  rw [hframe f (by simpa using hf)] at href
  cases href

/-- The empty store and lanes that hold nothing (R62). -/
theorem accounted_empty {s : State} (hstore : s.store = emptyStore) (empty : ∀ l, holdsNothing (laneOf s l) = true) :
    accounted [] s := by
  refine ⟨by simp [hstore, storeOk, emptyStore], by simp [hstore, emptyStore], fun l => storedIn_of_holdsNothing (empty l) _⟩

/-- Every move keeps the accounts. -/
theorem PartMove.keeps_accounts {G : Media → Prop} {s t : State} (h : PartMove G s t) (hs : accounted [] s) :
    accounted [] t := by
  have same {u : State} (hstore : storeOk u.store) (hrecords : u.store.records = s.store.records)
      (hlanes : u.lanes = s.lanes) : accounted [] u := by
    have hlane (l : LaneId) : laneOf u l = laneOf s l := by unfold laneOf; rw [hlanes]
    obtain ⟨ok, counts, stored⟩ := hs
    refine ⟨hstore, fun r hr => ?_, fun l => ?_⟩
    · rw [holdersOf_congr (s := s) r.ref fun l => by rw [hlane]]
      exact counts r (hrecords ▸ hr)
    · rw [hlane]
      exact storedIn_of_records (stored l) fun r hr _ => ⟨r, hrecords ▸ hr, rfl, rfl⟩
  have ok : storeOk s.store := hs.1
  cases h with
  | aside h => exact same (h.store ▸ ok) (by rw [h.store]) h.lanes
  | storeEmptied empty => exact accounted_empty rfl empty
  | flagCleared => exact same ok rfl rfl
  | reset straps =>
    refine accounted_empty rfl fun l => ?_
    have : laneOf (hardReset straps s) l = resetLane := by simp [laneOf, hardReset]
    rw [this]
    rfl
  | move h =>
    cases h with
    | beside h => exact same (by rw [h]; exact ok) (by rw [h]) (by rw [h])
    | lanes h => exact accounted_lanes hs h
    | drop h => exact accounted_drop hs h
    | frame kind slot _ quiet => exact accounted_frame hs kind slot quiet
    | stored p room some_pass => exact accounted_placed hs p room some_pass
    | _ => exact same ok rfl rfl

/-- Settles O55: what a lane gives up it releases, what it takes it holds, and a block leaves the store with its last holder. -/
theorem stepKeepsStoreAndHolders : Obligations.StepKeepsStoreAndHolders := by
  intro s t hstore hholders h
  exact (accounted_nil).mp
    (step_keeps (G := fun _ => True) (P := accounted []) (fun _ _ _ => trivial) (fun _ _ => PartMove.keeps_accounts)
      (fun _ _ hu => hu) ((accounted_nil).mpr ⟨hstore, hholders⟩) h)

end Sys2Proof.Elementary
end


section
/-! The form stage of every directive in one table: its parameter count, whether its first parameter is a lane, and the ranges of the
others (R140). -/

namespace Sys2Proof.Forms

open Sys2Proof.Machine Sys2Proof.Safety

/-- The failure a directive's form stage gives, if any. -/
def formOf (d : Directive) (ps : List Word) : Option Status :=
  match d with
  | .echo => none
  | .unitRead => formFailure (formNone ps)
  | .groupSet => formFailure (formGroup ps)
  | .noticeMask => formFailure (formOne ps)
  | .restart => formFailure (formRestart ps)
  | .portRead => formFailure (formPort ps)
  | .portZero => formFailure (formPort ps)
  | .flowSet => formFailure (formFlowSet ps)
  | .flowClear => formFailure (formFlow ps)
  | .flowRead => formFailure (formFlow ps)
  | .flowList => formFailure (formFlowList ps)
  | .flowZero => formFailure (formFlow ps)
  | .laneSet => formFailure (formLaneSet ps)
  | .laneSource => formFailure (formLaneSource ps)
  | .laneRead => formFailure (formLane ps)
  | .lanePeek => formFailure (formLanePeek ps)
  | .laneZero => formFailure (formLane ps)
  | .start => formFailure (formStart ps)
  | .halt => formFailure (formLane ps)
  | .run => formFailure (formLane ps)
  | .hold => formFailure (formLane ps)
  | .step => formFailure (formLane ps)
  | .seek => formFailure (formLane ps)
  | .cue => formFailure (formLane ps)
  | .stop => formFailure (formStop ps)
  | .timeSet => formFailure (formTimeSet ps)
  | .timeAdjust => formFailure (formTimeAdjust ps)
  | .timeRead => formFailure (formNone ps)
  | .schedAt => formFailure (formAt ps)
  | .sdlCancel => formFailure (formOne ps)
  | .sdlRead => formFailure (formSdlRead ps)

/-- The stages of R140 in their order: the count, the lane, the other ranges. -/
def stages (count : Nat) (lane inRange : Bool) (ps : List Word) : Option Status :=
  if ps.length ≠ count then some .badParam
  else if lane = true ∧ 16 ≤ (ps.getD 0 0).toNat then some .badLane
  else if inRange = false then some .badParam
  else none

/-- The parameter count of a directive and whether its first parameter is a lane; none for ECHO and AT, which take any number (of 3 or
more). -/
def countAndLane : Directive → Option (Nat × Bool)
  | .echo => none
  | .unitRead => some (0, false)
  | .groupSet => some (1, false)
  | .noticeMask => some (1, false)
  | .restart => some (1, false)
  | .portRead => some (1, false)
  | .portZero => some (1, false)
  | .flowSet => some (3, false)
  | .flowClear => some (1, false)
  | .flowRead => some (1, false)
  | .flowList => some (2, false)
  | .flowZero => some (1, false)
  | .laneSet => some (13, true)
  | .laneSource => some (3, true)
  | .laneRead => some (1, true)
  | .lanePeek => some (3, true)
  | .laneZero => some (1, true)
  | .start => some (3, true)
  | .halt => some (1, true)
  | .run => some (1, true)
  | .hold => some (1, true)
  | .step => some (1, true)
  | .seek => some (1, true)
  | .cue => some (1, true)
  | .stop => some (2, true)
  | .timeSet => some (2, false)
  | .timeAdjust => some (2, false)
  | .timeRead => some (0, false)
  | .schedAt => none
  | .sdlCancel => some (1, false)
  | .sdlRead => some (2, false)

theorem stages_of_length {count : Nat} {lane inRange : Bool} {ps : List Word} (h : ps.length ≠ count) :
    stages count lane inRange ps = some .badParam := if_pos h

theorem eq_stages_false {count : Nat} {inRange : Bool} {ps : List Word} {x : Option Status} (h : ps.length = count)
    (hx : x = if inRange then none else some .badParam) : x = stages count false inRange ps := by
  have hlane : ¬ (false = true ∧ 16 ≤ (ps.getD 0 0).toNat) := fun hbad => Bool.noConfusion hbad.1
  rw [hx, stages, if_neg (not_not.mpr h), if_neg hlane]
  cases inRange <;> rfl

theorem stages_badLane {count : Nat} {inRange : Bool} {ps : List Word} (h : ps.length = count) (hlane : 16 ≤ (ps.getD 0 0).toNat) :
    stages count true inRange ps = some .badLane := by
  rw [stages, if_neg (not_not.mpr h), if_pos ⟨rfl, hlane⟩]

theorem stages_lane {count : Nat} {inRange : Bool} {ps : List Word} (h : ps.length = count) (hlane : (ps.getD 0 0).toNat < 16) :
    stages count true inRange ps = if inRange then none else some .badParam := by
  rw [stages, if_neg (not_not.mpr h), if_neg fun hbad => Nat.not_le.mpr hlane hbad.2]
  cases inRange <;> rfl

theorem formFailure_inRange {α : Type} (good : Bool) (x : α) :
    formFailure (inRange good x) = if good then none else some .badParam := by
  cases good <;> rfl

theorem toNat_eq_iff {w : Word} {n : Nat} (hn : n < 65536) : w = BitVec.ofNat 16 n ↔ w.toNat = n := by
  rw [← BitVec.toNat_inj, BitVec.toNat_ofNat, Nat.mod_eq_of_lt hn]

/-- A form of one parameter: any other count is BAD_PARAM. -/
theorem failure_of_one {α : Type} (form : List Word → Except Status α) {lane : Bool} (range : List Word → Bool)
    (hnil : form [] = .error .badParam) (hmore : ∀ a b ps, form (a :: b :: ps) = .error .badParam)
    (hone : ∀ w, formFailure (form [w]) = stages 1 lane (range [w]) [w]) (ps : List Word) :
    formFailure (form ps) = stages 1 lane (range ps) ps := by
  match ps with
  | [] => exact (congrArg formFailure hnil).trans (stages_of_length (by simp)).symm
  | [w] => exact hone w
  | a :: b :: ps => exact (congrArg formFailure (hmore a b ps)).trans (stages_of_length (by simp)).symm

/-- A form of two parameters: any other count is BAD_PARAM. -/
theorem failure_of_two {α : Type} (form : List Word → Except Status α) {lane : Bool} (range : List Word → Bool)
    (hnil : form [] = .error .badParam) (hone : ∀ a, form [a] = .error .badParam)
    (hmore : ∀ a b c ps, form (a :: b :: c :: ps) = .error .badParam)
    (htwo : ∀ a b, formFailure (form [a, b]) = stages 2 lane (range [a, b]) [a, b]) (ps : List Word) :
    formFailure (form ps) = stages 2 lane (range ps) ps := by
  match ps with
  | [] => exact (congrArg formFailure hnil).trans (stages_of_length (by simp)).symm
  | [a] => exact (congrArg formFailure (hone a)).trans (stages_of_length (by simp)).symm
  | [a, b] => exact htwo a b
  | a :: b :: c :: ps => exact (congrArg formFailure (hmore a b c ps)).trans (stages_of_length (by simp)).symm

/-- A form of three parameters: any other count is BAD_PARAM. -/
theorem failure_of_three {α : Type} (form : List Word → Except Status α) {lane : Bool} (range : List Word → Bool)
    (hnil : form [] = .error .badParam) (hone : ∀ a, form [a] = .error .badParam) (htwo : ∀ a b, form [a, b] = .error .badParam)
    (hmore : ∀ a b c d ps, form (a :: b :: c :: d :: ps) = .error .badParam)
    (hthree : ∀ a b c, formFailure (form [a, b, c]) = stages 3 lane (range [a, b, c]) [a, b, c]) (ps : List Word) :
    formFailure (form ps) = stages 3 lane (range ps) ps := by
  match ps with
  | [] => exact (congrArg formFailure hnil).trans (stages_of_length (by simp)).symm
  | [a] => exact (congrArg formFailure (hone a)).trans (stages_of_length (by simp)).symm
  | [a, b] => exact (congrArg formFailure (htwo a b)).trans (stages_of_length (by simp)).symm
  | [a, b, c] => exact hthree a b c
  | a :: b :: c :: d :: ps => exact (congrArg formFailure (hmore a b c d ps)).trans (stages_of_length (by simp)).symm

theorem formNone_failure (ps : List Word) : formFailure (formNone ps) = stages 0 false true ps := by
  cases ps with
  | nil => rfl
  | cons w ws => exact (stages_of_length (by simp)).symm

theorem formOne_failure (ps : List Word) : formFailure (formOne ps) = stages 1 false true ps := by
  exact failure_of_one formOne (fun _ => true) rfl (fun _ _ _ => rfl) (fun _ => rfl) ps

theorem formGroup_failure (ps : List Word) : formFailure (formGroup ps) = stages 1 false (paramsInRange .groupSet ps) ps := by
  refine failure_of_one formGroup (paramsInRange .groupSet) rfl (fun _ _ _ => rfl) (fun w => ?_) ps
  refine eq_stages_false rfl ?_
  change formFailure (if w = 0 then _ else _) = if decide (w = 0 ∨ (64 ≤ w.toNat ∧ w.toNat ≤ 254)) then _ else _
  by_cases hw : w = 0
  · rw [if_pos hw, decide_eq_true (.inl hw)]
    rfl
  · rw [if_neg hw, formFailure_inRange]
    simp only [hw, false_or]

theorem formRestart_failure (ps : List Word) : formFailure (formRestart ps) = stages 1 false (paramsInRange .restart ps) ps := by
  refine failure_of_one formRestart (paramsInRange .restart) rfl (fun _ _ _ => rfl) (fun w => ?_) ps
  refine eq_stages_false rfl ?_
  change formFailure (if w = 1 then _ else if w = 2 then _ else _) = if decide (w = 1 ∨ w = 2) then _ else _
  by_cases h1 : w = 1
  · rw [if_pos h1, decide_eq_true (.inl h1)]
    rfl
  rw [if_neg h1]
  by_cases h2 : w = 2
  · rw [if_pos h2, decide_eq_true (.inr h2)]
    rfl
  · rw [if_neg h2, decide_eq_false (not_or.mpr ⟨h1, h2⟩)]
    rfl

theorem formPort_failure {d : Directive} (hd : d = .portRead ∨ d = .portZero) (ps : List Word) :
    formFailure (formPort ps) = stages 1 false (paramsInRange d ps) ps := by
  refine failure_of_one formPort (paramsInRange d) rfl (fun _ _ _ => rfl) (fun w => ?_) ps
  have hrange : paramsInRange d [w] = decide (w.toNat ≤ 1) := by rcases hd with rfl | rfl <;> rfl
  refine eq_stages_false rfl ?_
  change formFailure (portParam w) = _
  rw [hrange, portParam]
  by_cases h0 : w = 0
  · simp [h0, formFailure]
  · by_cases h1 : w = 1
    · simp [h1, formFailure]
    · have : ¬ w.toNat ≤ 1 := by bv_omega
      rw [if_neg h0, if_neg h1]
      simp only [this, decide_false]
      rfl

theorem formFlow_failure {d : Directive} (hd : d = .flowClear ∨ d = .flowRead ∨ d = .flowZero) (ps : List Word) :
    formFailure (formFlow ps) = stages 1 false (paramsInRange d ps) ps := by
  refine failure_of_one formFlow (paramsInRange d) rfl (fun _ _ _ => rfl) (fun w => ?_) ps
  have hrange : paramsInRange d [w] = flowValid w := by rcases hd with rfl | rfl | rfl <;> rfl
  exact eq_stages_false rfl ((formFailure_inRange _ _).trans (by rw [hrange]))

theorem portSetParam_failure (p : Word) :
    formFailure (portSetParam p) = if 1 ≤ p.toNat ∧ p.toNat ≤ 3 then none else some .badParam := by
  unfold portSetParam
  by_cases h1 : p = 1
  · simp [h1, formFailure]
  by_cases h2 : p = 2
  · simp [h2, formFailure]
  by_cases h3 : p = 3
  · simp [h3, formFailure]
  · have : ¬ (1 ≤ p.toNat ∧ p.toNat ≤ 3) := by bv_omega
    rw [if_neg h1, if_neg h2, if_neg h3, if_neg this]
    rfl

theorem formFlowSet_failure (ps : List Word) : formFailure (formFlowSet ps) = stages 3 false (paramsInRange .flowSet ps) ps := by
  refine failure_of_three formFlowSet (paramsInRange .flowSet) rfl (fun _ => rfl) (fun _ _ => rfl) (fun _ _ _ _ _ => rfl)
    (fun f p l => ?_) ps
  refine eq_stages_false rfl ?_
  delta formFlowSet
  dsimp only
  have hp := portSetParam_failure p
  cases hparam : portSetParam p with
  | ok set =>
    rw [hparam] at hp
    have hrange : 1 ≤ p.toNat ∧ p.toNat ≤ 3 := by
      by_contra hno
      rw [if_neg hno] at hp
      cases hp
    rw [show paramsInRange .flowSet [f, p, l] = (flowValid f && decide (l.toNat ≤ 255)) from ?_]
    · exact formFailure_inRange _ _
    · change decide _ = (decide _ && decide _)
      rw [← Bool.decide_and]
      exact decide_eq_decide.mpr ⟨fun ⟨h0, hlast, _, _, hl⟩ => ⟨⟨h0, hlast⟩, hl⟩,
        fun ⟨⟨h0, hlast⟩, hl⟩ => ⟨h0, hlast, hrange.1, hrange.2, hl⟩⟩
  | error st =>
    rw [hparam] at hp
    have hrange : ¬ (1 ≤ p.toNat ∧ p.toNat ≤ 3) := fun hyes => by
      rw [if_pos hyes] at hp
      cases hp
    rw [if_neg hrange] at hp
    have hbad : paramsInRange .flowSet [f, p, l] = false :=
      decide_eq_false fun ⟨_, _, hlow, hhigh, _⟩ => hrange ⟨hlow, hhigh⟩
    rw [hbad]
    exact hp

theorem formFlowList_failure (ps : List Word) : formFailure (formFlowList ps) = stages 2 false (paramsInRange .flowList ps) ps := by
  exact failure_of_two formFlowList (paramsInRange .flowList) rfl (fun _ => rfl) (fun _ _ _ _ => rfl)
    (fun _ _ => eq_stages_false rfl (formFailure_inRange _ _)) ps

theorem formSdlRead_failure (ps : List Word) : formFailure (formSdlRead ps) = stages 2 false (paramsInRange .sdlRead ps) ps := by
  exact failure_of_two formSdlRead (paramsInRange .sdlRead) rfl (fun _ => rfl) (fun _ _ _ _ => rfl)
    (fun _ _ => eq_stages_false rfl (formFailure_inRange _ _)) ps

theorem formTimeSet_failure (ps : List Word) : formFailure (formTimeSet ps) = stages 2 false true ps := by
  exact failure_of_two formTimeSet (fun _ => true) rfl (fun _ => rfl) (fun _ _ _ _ => rfl)
    (fun _ _ => rfl) ps

theorem formTimeAdjust_failure (ps : List Word) :
    formFailure (formTimeAdjust ps) = stages 2 false (paramsInRange .timeAdjust ps) ps := by
  exact failure_of_two formTimeAdjust (paramsInRange .timeAdjust) rfl (fun _ => rfl) (fun _ _ _ _ => rfl)
    (fun _ _ => eq_stages_false rfl (formFailure_inRange _ _)) ps

/-! ## Forms whose first parameter is a lane -/

/-- A form that looks at its lane first. -/
theorem failure_of_lane {α : Type} {lane : Word} {others : List Word} {range : Bool} {behind : LaneId → Except Status α}
    (h : ∀ l, formFailure (behind l) = if range then none else some .badParam) :
    formFailure (match laneParam lane with | .ok l => behind l | .error st => .error st) =
      stages (others.length + 1) true range (lane :: others) := by
  by_cases hlane : lane.toNat < 16
  · have hparam : laneParam lane = .ok ⟨lane.toNat, hlane⟩ := laneParam_of_eq rfl
    rw [hparam]
    exact (h _).trans (stages_lane (ps := lane :: others) rfl hlane).symm
  · have hparam : laneParam lane = .error .badLane := laneParam_of_le (Nat.not_lt.mp hlane)
    rw [hparam]
    exact (stages_badLane (ps := lane :: others) rfl (Nat.not_lt.mp hlane)).symm

theorem formLane_failure (ps : List Word) : formFailure (formLane ps) = stages 1 true true ps := by
  refine failure_of_one formLane (fun _ => true) rfl (fun _ _ _ => rfl) (fun w => ?_) ps
  refine Eq.trans ?_ (failure_of_lane (lane := w) (others := []) (range := true) (behind := fun l => .ok l) fun _ => rfl)
  change formFailure (laneParam w) = _
  cases laneParam w <;> rfl

theorem formStart_failure (ps : List Word) : formFailure (formStart ps) = stages 3 true true ps := by
  refine failure_of_three formStart (fun _ => true) rfl (fun _ => rfl) (fun _ _ => rfl) (fun _ _ _ _ _ => rfl)
    (fun lane high low => ?_) ps
  exact failure_of_lane (others := [high, low]) fun _ => rfl

theorem formStop_failure (ps : List Word) : formFailure (formStop ps) = stages 2 true (paramsInRange .stop ps) ps := by
  refine failure_of_two formStop (paramsInRange .stop) rfl (fun _ => rfl) (fun _ _ _ _ => rfl)
    (fun lane mode => ?_) ps
  refine failure_of_lane (others := [mode]) fun l => ?_
  change _ = if decide (mode.toNat ≤ 1) then _ else _
  by_cases h0 : mode = 0
  · rw [if_pos h0, h0]
    rfl
  rw [if_neg h0]
  by_cases h1 : mode = 1
  · rw [if_pos h1, h1]
    rfl
  · rw [if_neg h1, decide_eq_false (by bv_omega)]
    rfl

theorem formLaneSource_failure (ps : List Word) :
    formFailure (formLaneSource ps) = stages 3 true (paramsInRange .laneSource ps) ps := by
  refine failure_of_three formLaneSource (paramsInRange .laneSource) rfl (fun _ => rfl) (fun _ _ => rfl) (fun _ _ _ _ _ => rfl)
    (fun lane f c => ?_) ps
  exact failure_of_lane (others := [f, c]) fun _ => formFailure_inRange _ _

theorem formLanePeek_failure (ps : List Word) :
    formFailure (formLanePeek ps) = stages 3 true (paramsInRange .lanePeek ps) ps := by
  refine failure_of_three formLanePeek (paramsInRange .lanePeek) rfl (fun _ => rfl) (fun _ _ => rfl) (fun _ _ _ _ _ => rfl)
    (fun lane start m => ?_) ps
  exact failure_of_lane (others := [start, m]) fun _ => formFailure_inRange _ _

theorem formLaneSet_failure (ps : List Word) :
    formFailure (formLaneSet ps) = stages 13 true (paramsInRange .laneSet ps) ps := by
  rcases ps with _ | ⟨a0, _ | ⟨a1, _ | ⟨a2, _ | ⟨a3, _ | ⟨a4, _ | ⟨a5, _ | ⟨a6, _ | ⟨a7, _ | ⟨a8, _ | ⟨a9, _ | ⟨a10, _ | ⟨a11,
    _ | ⟨a12, _ | ⟨a13, ps⟩⟩⟩⟩⟩⟩⟩⟩⟩⟩⟩⟩⟩⟩
  case cons.cons.cons.cons.cons.cons.cons.cons.cons.cons.cons.cons.cons.nil =>
    exact failure_of_lane (others := [a1, a2, a3, a4, a5, a6, a7, a8, a9, a10, a11, a12]) fun _ => formFailure_inRange _ _
  all_goals exact (stages_of_length (by simp)).symm

/-- The form stage of every directive but ECHO and AT (R140). -/
theorem formOf_eq_stages {d : Directive} {count : Nat} {lane : Bool} (h : countAndLane d = some (count, lane)) (ps : List Word) :
    formOf d ps = stages count lane (paramsInRange d ps) ps := by
  cases d <;> cases h
  case groupSet => exact formGroup_failure ps
  case restart => exact formRestart_failure ps
  case portRead => exact formPort_failure (.inl rfl) ps
  case portZero => exact formPort_failure (.inr rfl) ps
  case flowSet => exact formFlowSet_failure ps
  case flowClear => exact formFlow_failure (.inl rfl) ps
  case flowRead => exact formFlow_failure (.inr (.inl rfl)) ps
  case flowZero => exact formFlow_failure (.inr (.inr rfl)) ps
  case flowList => exact formFlowList_failure ps
  case laneSet => exact formLaneSet_failure ps
  case laneSource => exact formLaneSource_failure ps
  case lanePeek => exact formLanePeek_failure ps
  case stop => exact formStop_failure ps
  case timeAdjust => exact formTimeAdjust_failure ps
  case sdlRead => exact formSdlRead_failure ps
  case unitRead => exact formNone_failure ps
  case timeRead => exact formNone_failure ps
  case noticeMask => exact formOne_failure ps
  case sdlCancel => exact formOne_failure ps
  case timeSet => exact formTimeSet_failure ps
  case start => exact formStart_failure ps
  all_goals exact formLane_failure ps

/-! ## A form failure is the answer -/

theorem formFailure_eq_some {α : Type} {form : Except Status α} {st : Status} : formFailure form = some st ↔ form = .error st := by
  cases form <;> simp [formFailure]

theorem issueDirective_of_failure {α : Type} {d : Directive} {ps : List Word} {s : State} {st : Status} {form : Except Status α}
    {serve : List Word → Nat → State → Answer} {owner : α → Answer} (h : formFailure form = some st) (hissue : mayIssue d ps s)
    (hserve : serve ps (roomFor s) s = afterForm form owner s) : issueDirective d ps serve s = answered d st [] s := by
  rw [issueDirective_of_mayIssue hissue, hserve, (formFailure_eq_some).mp h]
  rfl

theorem inquireDirective_of_failure {α : Type} {d : Directive} {form : List Word → Except Status α} {owners : α → Owners}
    {ps : List Word} {s : State} {st : Status} (h : formFailure (form ps) = some st) (hissue : mayIssue d ps s) :
    inquireDirective d form owners ps s = answered d st [] s := by
  rw [inquireDirective, (formFailure_eq_some).mp h]
  exact issueDirective_of_mayIssue hissue _

theorem issueUnless_of_failure {α : Type} {waits : Bool} {d : Directive} {form : List Word → Except Status α} {ps : List Word}
    {s : State} {st : Status} {serve : List Word → Nat → State → Answer} {owner : α → Answer}
    (h : formFailure (form ps) = some st) (hissue : mayIssue d ps s)
    (hserve : serve ps (roomFor s) s = afterForm (form ps) owner s) :
    issueUnless waits form d ps serve s = answered d st [] s := by
  rw [issueUnless, h, Option.isNone_some, Bool.and_false, if_neg Bool.false_ne_true]
  exact issueDirective_of_failure h hissue hserve

/-- A directive that fails its form stage is answered so, with no other effect (R140). -/
theorem exec_of_formOf {d : Directive} {ps : List Word} {s : State} {st : Status} (h : formOf d ps = some st)
    (hissue : mayIssue d ps s) : exec (directiveCommand d ps) s = .next (answered d st [] s) := by
  cases d
  case echo => cases h
  case unitRead => exact congrArg _ (inquireDirective_of_failure h hissue)
  case portRead => exact congrArg _ (inquireDirective_of_failure h hissue)
  case portZero => exact congrArg _ (inquireDirective_of_failure h hissue)
  case restart =>
    have hform : formRestart ps = .error st := (formFailure_eq_some).mp h
    have hne : ps ≠ [2] := by
      rintro rfl
      cases hform
    have hcommand : directiveCommand .restart ps = .restartLanes ps := if_neg hne
    have hexec : exec (.restartLanes ps) s = .next (issueDirective .restart ps (fun _ _ t => refuse st t) s) := by
      change execRestartLanes ps s = _
      rw [execRestartLanes, hform]
    rw [hcommand, hexec, issueDirective_of_mayIssue hissue]
    rfl
  case schedAt => exact congrArg _ (issueUnless_of_failure h hissue rfl)
  case sdlCancel =>
    have hne : ps ≠ [0xFFFF] := by
      rintro rfl
      cases h
    have hcommand : directiveCommand .sdlCancel ps = .sdlCancel ps := if_neg hne
    rw [hcommand]
    exact congrArg _ (issueUnless_of_failure h hissue rfl)
  case sdlRead => exact congrArg _ (issueUnless_of_failure h hissue rfl)
  all_goals exact congrArg _ (issueDirective_of_failure h hissue rfl)

/-- A code no directive has. -/
theorem directiveOf_eq_none {code : BitVec 8} (h : ∀ d, directiveCode d ≠ code) : directiveOf code = none := by
  cases hd : directiveOf code with
  | none => rfl
  | some d =>
    have hall : ∀ c : BitVec 8, ∀ d, directiveOf c = some d → directiveCode d = c := by decide
    exact absurd (hall code d hd) (h d)

/-- Settles O44: the three stages of R140 in their order, and the code outside the table. -/
theorem formStageRefuses : Obligations.FormStageRefuses := by
  refine ⟨fun code ps s hcode hissue => ?_, fun d k ps s hd hissue hlen => ?_, fun ps s hissue hlen => ?_,
    fun d k lane others s hd hissue hlen => ?_, fun d k ps s hd hissue hlen hrange => ?_⟩
  · change execUnknownCode code ps s = _
    rw [execUnknownCode, directiveOf_eq_none hcode, Option.isSome_none, if_neg Bool.false_ne_true, issue_of_issuable hissue]
    rfl
  · have hcount : (countAndLane d).map Prod.fst = some k :=
      (show ∀ x ∈ _, (countAndLane x.1).map Prod.fst = some x.2 from by decide) (d, k) hd
    obtain ⟨⟨count, lane⟩, hshape, rfl⟩ := Option.map_eq_some_iff.mp hcount
    exact exec_of_formOf ((formOf_eq_stages hshape ps).trans (stages_of_length hlen)) hissue
  · refine exec_of_formOf (d := .schedAt) ((formFailure_eq_some).mpr ?_) hissue
    rcases ps with _ | ⟨a, _ | ⟨b, _ | ⟨c, ps⟩⟩⟩
    case cons.cons.cons =>
      simp only [List.length_cons] at hlen
      omega
    all_goals rfl
  · have hcount : countAndLane d = some (k + 1, true) :=
      (show ∀ x ∈ _, countAndLane x.1 = some (x.2 + 1, true) from by decide) (d, k) hd
    have hform := formOf_eq_stages hcount (lane :: others)
    have hlen' : (lane :: others).length = k + 1 := by rw [List.length_cons, hlen]
    refine ⟨fun hlane => exec_of_formOf (hform.trans (stages_badLane hlen' hlane)) hissue, fun hlane hrange => ?_⟩
    rw [stages_lane hlen' (Nat.lt_succ_of_le hlane), hrange] at hform
    exact exec_of_formOf hform hissue
  · have hcount : countAndLane d = some (k, false) :=
      (show ∀ x ∈ _, countAndLane x.1 = some (x.2, false) from by decide) (d, k) hd
    have hform := formOf_eq_stages hcount ps
    rw [← eq_stages_false hlen rfl, hrange] at hform
    exact exec_of_formOf hform hissue

end Sys2Proof.Forms
end


section
/-! The scheduled directive list: what AT admits, the serial it gives, the place of its entry (R166..R168). -/

namespace Sys2Proof.ScheduledList

open Sys2Proof.Machine Sys2Proof.Safety Sys2Proof.Forms Sys2Proof.Elementary

/-! ## What AT admits (R166 checks 4 to 7) -/

theorem stages_eq_none {count : Nat} {lane inRange : Bool} {ps : List Word} :
    stages count lane inRange ps = none ↔
      ps.length = count ∧ (lane = true → (ps.getD 0 0).toNat ≤ 15) ∧ inRange = true := by
  unfold stages
  by_cases hlen : ps.length = count
  · by_cases hlane : lane = true ∧ 16 ≤ (ps.getD 0 0).toNat
    · rw [if_neg (not_not.mpr hlen), if_pos hlane]
      refine ⟨nofun, fun h => absurd (h.2.1 hlane.1) ?_⟩
      omega
    · rw [if_neg (not_not.mpr hlen), if_neg hlane]
      have hlane' : lane = true → (ps.getD 0 0).toNat ≤ 15 := fun h => by
        by_contra hno
        exact hlane ⟨h, by omega⟩
      cases inRange with
      | false => exact ⟨nofun, fun h => absurd h.2.2 Bool.false_ne_true⟩
      | true => exact ⟨fun _ => ⟨hlen, hlane', rfl⟩, fun _ => rfl⟩
  · rw [if_pos hlen]
    exact ⟨nofun, fun h => absurd h.1 hlen⟩

/-- The form stage of an embedded directive is the directive's own (R161). -/
theorem embeddedFailure_eq_formOf {d : Directive} (h : schedulable d = true) (ps : List Word) :
    embeddedFailure d ps = formOf d ps := by
  cases d <;> first | rfl | cases h

/-- The schedulable directives with their counts are those of the statements (R164). -/
theorem mem_schedulableForms {d : Directive} : (∃ form ∈ schedulableForms, form.1 = d) ↔ schedulable d = true := by
  cases d <;> decide

theorem countAndLane_of_mem {form : Directive × Nat × Bool} (h : form ∈ schedulableForms) :
    countAndLane form.1 = some form.2 ∧ schedulable form.1 = true :=
  (show ∀ x ∈ schedulableForms, countAndLane x.1 = some x.2 ∧ schedulable x.1 = true from by decide) form h

/-- What AT's checks 4 to 7 pass, in the words of the statements. -/
theorem admissible_iff {d : Directive} {ps : List Word} :
    admissible d ps ↔ schedulable d = true ∧ embeddedFailure d ps = none := by
  constructor
  · rintro ⟨form, hform, rfl, hlen, hlane, hrange⟩
    obtain ⟨hcount, hsched⟩ := countAndLane_of_mem hform
    rw [embeddedFailure_eq_formOf hsched, formOf_eq_stages hcount]
    exact ⟨hsched, (stages_eq_none).mpr ⟨hlen, hlane, hrange⟩⟩
  · rintro ⟨hsched, hnone⟩
    obtain ⟨form, hform, rfl⟩ := (mem_schedulableForms).mpr hsched
    obtain ⟨hcount, -⟩ := countAndLane_of_mem hform
    rw [embeddedFailure_eq_formOf hsched, formOf_eq_stages hcount] at hnone
    obtain ⟨hlen, hlane, hrange⟩ := (stages_eq_none).mp hnone
    exact ⟨form, hform, rfl, hlen, hlane, hrange⟩

/-- All that R166's checks 1 to 8 ask for. -/
theorem atFailure_eq_none {a : AtArgs} {s : State} {d : Directive} (h : atFailure a s = none)
    (names : directiveOf (envelopeCode a.envelope) = some d) :
    s.time.isSet = true ∧ strictlyAfter a.due s.time.tb = true ∧ distance s.time.tb a.due ≤ 2 ^ 30 ∧ admissible d a.params ∧
      s.scheduler.list.length < 32 := by
  unfold atFailure at h
  split at h
  · cases h
  · next hset =>
    split at h
    · cases h
    · next hpast =>
      split at h
      · cases h
      · next hfar =>
        rw [names] at h
        simp only at h
        split at h
        · cases h
        · next hsched =>
          split at h
          · cases h
          · split at h
            · cases h
            · next hform =>
              split at h
              · cases h
              · next hroom =>
                refine ⟨by simpa using hset, by simpa using hpast, ?_, (admissible_iff).mpr ⟨by simpa using hsched, hform⟩, ?_⟩
                · exact Nat.not_lt.mp hfar
                · exact Nat.not_le.mp hroom

/-! ## The serial (R167) -/

/-- The candidate k places behind a serial, 65,534 being followed by 0. -/
def candidateFrom (n : Word) (k : Nat) : Word := BitVec.ofNat 16 ((n.toNat + k) % 65535)

theorem toNat_candidateFrom (n : Word) (k : Nat) : (candidateFrom n k).toNat = (n.toNat + k) % 65535 := by
  have := Nat.mod_lt (n.toNat + k) (show 0 < 65535 by decide)
  rw [candidateFrom, BitVec.toNat_ofNat, Nat.mod_eq_of_lt (by omega)]

theorem candidateFrom_zero {n : Word} (h : n.toNat ≤ 65534) : candidateFrom n 0 = n := by
  apply BitVec.eq_of_toNat_eq
  rw [toNat_candidateFrom]
  omega

theorem toNat_serialAfter {n : Word} (h : n.toNat ≤ 65534) : (serialAfter n).toNat = (n.toNat + 1) % 65535 := by
  unfold serialAfter
  have hlast : Config.lastSerial = 65534 := rfl
  split
  · next heq =>
    rw [heq, hlast]
    rfl
  · next hne =>
    rw [BitVec.toNat_add, show (1 : Word).toNat = 1 from rfl]
    omega

/-- The candidates of the next serial are those behind the first. -/
theorem candidateFrom_serialAfter {n : Word} (h : n.toNat ≤ 65534) (k : Nat) :
    candidateFrom (serialAfter n) k = candidateFrom n (k + 1) := by
  apply BitVec.eq_of_toNat_eq
  rw [toNat_candidateFrom, toNat_candidateFrom, toNat_serialAfter h]
  omega

theorem serialAfter_candidateFrom (n : Word) (k : Nat) : serialAfter (candidateFrom n k) = candidateFrom n (k + 1) := by
  have hle : (candidateFrom n k).toNat ≤ 65534 := by
    rw [toNat_candidateFrom]
    omega
  apply BitVec.eq_of_toNat_eq
  rw [toNat_serialAfter hle, toNat_candidateFrom, toNat_candidateFrom]
  omega

theorem serialHeld_iff {n : Word} {list : List SdlEntry} : serialHeld n list = true ↔ ∃ e ∈ list, e.serial = n := by
  simp [serialHeld]

/-- The candidate the search stops at: those before it are held, and it is not, unless the search is at its end. -/
theorem freeSerial_spec (tries : Nat) {n : Word} (hn : n.toNat ≤ 65534) (list : List SdlEntry) :
    ∃ k ≤ tries, freeSerial tries n list = candidateFrom n k ∧ (∀ j < k, serialHeld (candidateFrom n j) list = true) ∧
      (k < tries → serialHeld (candidateFrom n k) list = false) := by
  induction tries generalizing n with
  | zero => exact ⟨0, Nat.le_refl _, (candidateFrom_zero hn).symm, by simp, by simp⟩
  | succ tries ih =>
    by_cases held : serialHeld n list = true
    · have hnext : (serialAfter n).toNat ≤ 65534 := by
        rw [toNat_serialAfter hn]
        omega
      obtain ⟨k, hk, hfree, hbefore, hstop⟩ := ih hnext
      refine ⟨k + 1, by omega, ?_, fun j hj => ?_, fun hlt => ?_⟩
      · rw [freeSerial, if_pos held, hfree, candidateFrom_serialAfter hn]
      · cases j with
        | zero => rwa [candidateFrom_zero hn]
        | succ j =>
          rw [← candidateFrom_serialAfter hn]
          exact hbefore j (by omega)
      · rw [← candidateFrom_serialAfter hn]
        exact hstop (by omega)
    · exact ⟨0, by omega, by rw [freeSerial, if_neg held, candidateFrom_zero hn], by simp,
        fun _ => by rw [candidateFrom_zero hn]; simpa using held⟩

/-- With at most 32 entries the search finds a free serial (R167). -/
theorem nextSerialFor_spec {s : State} (hn : s.scheduler.nextSerial.toNat ≤ 65534) (hlen : s.scheduler.list.length ≤ 32) :
    ∃ k, nextSerialFor s = candidateFrom s.scheduler.nextSerial k ∧
      (∀ j < k, ∃ e ∈ s.scheduler.list, e.serial = candidateFrom s.scheduler.nextSerial j) ∧
      ∀ e ∈ s.scheduler.list, e.serial ≠ candidateFrom s.scheduler.nextSerial k := by
  obtain ⟨k, hk, hfree, hbefore, hstop⟩ := freeSerial_spec 33 hn s.scheduler.list
  have hlt : k < 33 := by
    by_contra hno
    have hk33 : k = 33 := by omega
    subst hk33
    have hsub : (List.range 33).map (candidateFrom s.scheduler.nextSerial) ⊆ s.scheduler.list.map (·.serial) := by
      intro c hc
      obtain ⟨j, hj, rfl⟩ := List.mem_map.mp hc
      obtain ⟨e, he, heq⟩ := (serialHeld_iff).mp (hbefore j (List.mem_range.mp hj))
      exact List.mem_map.mpr ⟨e, he, heq⟩
    have hnodup : ((List.range 33).map (candidateFrom s.scheduler.nextSerial)).Nodup := by
      refine List.Nodup.map_on (fun i hi j hj heq => ?_) List.nodup_range
      have := congrArg BitVec.toNat heq
      rw [toNat_candidateFrom, toNat_candidateFrom] at this
      have := List.mem_range.mp hi
      have := List.mem_range.mp hj
      omega
    have := (hnodup.subperm hsub).length_le
    simp only [List.length_map, List.length_range] at this
    omega
  refine ⟨k, hfree, fun j hj => (serialHeld_iff).mp (hbefore j hj), fun e he heq => ?_⟩
  have := hstop hlt
  rw [(serialHeld_iff).mpr ⟨e, he, heq⟩] at this
  cases this

/-! ## The place of an entry (R168) -/

theorem insertSdl_inserted (tb : Tick) (x : SdlEntry) (list : List SdlEntry) :
    InsertedBy (fun e => dueDistance tb e.due) x list (insertSdl tb x list) := by
  induction list with
  | nil => exact .front (by simp)
  | cons e es ih =>
    unfold insertSdl
    split
    · next h => exact ih.cons h
    · next h => exact .front (by simpa using h)

end Sys2Proof.ScheduledList
end


section
/-! The machine as a whole, hard reset, and the ingress ports (O1..O8). -/

namespace Sys2Proof.Reception

open Sys2Proof.Machine Sys2Proof.Safety Sys2Proof.Elementary

/-- Settles O1: `step` is `exec` of the front command, by its definition. -/
theorem stepRunsFrontCommand : Obligations.StepRunsFrontCommand := fun _ _ _ => rfl

/-! ## What a move leaves alone -/

/-- The blocks no elementary move touches: the control unit, the report generator, the commands that wait. -/
structure KeepsControl (s t : State) : Prop where
  control : t.control = s.control
  reports : t.reports = s.reports
  pending : t.pending = s.pending

theorem KeepsControl.refl (s : State) : KeepsControl s s := ⟨rfl, rfl, rfl⟩

theorem KeepsControl.trans {s t u : State} (h : KeepsControl s t) (h' : KeepsControl t u) : KeepsControl s u :=
  ⟨h'.control.trans h.control, h'.reports.trans h.reports, h'.pending.trans h.pending⟩

theorem keepsControl_move {G : Scope} {s t : State} (h : Move G s t) : KeepsControl s t := by
  cases h with
  | beside h =>
    rw [h]
    exact ⟨rfl, rfl, rfl⟩
  | drop h => exact ⟨by simp [updateLane], by simp [updateLane], by simp [updateLane]⟩
  | @frame l kind slot active quiet =>
    unfold beginFrame
    simp only
    split <;> exact ⟨rfl, rfl, rfl⟩
  | @stored m p room some_pass =>
    rw [Placement.foldl_insertAt (Placement.nodup_passingLanes m s)]
    exact ⟨rfl, rfl, rfl⟩
  | _ => exact ⟨rfl, rfl, rfl⟩

theorem keepsControl_moves {G : Scope} {s t : State} (h : Moves G s t) : KeepsControl s t := by
  induction h with
  | refl => exact .refl s
  | tail _ hmove ih => exact ih.trans (keepsControl_move hmove)

theorem pending_partMove {G : Media → Prop} {s t : State} (h : PartMove G s t) : t.pending = s.pending := by
  cases h with
  | move h => exact (keepsControl_move h).pending
  | aside h => exact h.pending
  | _ => rfl

theorem pending_partMoves {G : Media → Prop} {s t : State} (h : PartMoves G s t) : t.pending = s.pending := by
  induction h with
  | refl => rfl
  | tail _ hmove ih => exact (pending_partMove hmove).trans ih

/-- Settles O2: `exec_commanded` gives every command a next state, reached by moves that leave the queue of commands alone. -/
theorem everyCommandCompletes : Obligations.EveryCommandCompletes := by
  refine ⟨fun c s => ?_, fun s hidle => ?_⟩
  · obtain ⟨t, ht, hc⟩ := exec_commanded (G := fun _ => True) c (s := s) fun _ _ _ => trivial
    exact ⟨t, ht, pending_partMoves hc.partMoves⟩
  · unfold step
    rw [hidle]

/-! ## Hard reset -/

/-- P0 of UNIT_RESTARTED with TIME_UNSET set (R7, R182). -/
theorem restartedHeader_eq (unit : BitVec 6) :
    (0#4 ++ BitVec.ofNat 4 8 ++ unit.setWidth 8 : BitVec 16) ||| 0x8000 = 0x8800 ||| unit.setWidth 16 := by
  revert unit
  decide

theorem hardResetPayload (unit : BitVec 6) :
    stampUnset false (noticePayload unit 0 (.unitRestarted .hard)) = [0x8800 ||| unit.setWidth 16, 0x0801, 0, 1, 1] :=
  congrArg (· :: [0x0801, 0, 1, 1]) (restartedHeader_eq unit)

theorem hardResetReports_eq (unit : BitVec 6) (hold : Bool) :
    hardResetReports unit hold =
      { queue := [{ kind := .notice, seq := 0, pts := 0, payload := [0x8800 ||| unit.setWidth 16, 0x0801, 0, 1, 1] }]
        seq := 1, mask := 0xFF, suppressed := 0, reserved := false, link := if hold then .quiet else .head, hold := hold } := by
  unfold hardResetReports
  rw [hardResetPayload]
  cases hold <;> rfl

/-- Settles O3: each block of the state is its reset constant, by definition; the report queue depends on the RPT_HOLD pin alone. -/
theorem hardResetValues : Obligations.HardResetValues := by
  intro straps s
  refine congrArg Host.Outcome.next ?_
  unfold hardReset
  rw [hardResetReports_eq]
  rfl

/-! ## The invariants at reset -/

theorem laneOf_reset (l : LaneId) : laneOf State.reset l = resetLane := by
  show (Vector.replicate 16 resetLane)[l.val] = resetLane
  exact Vector.getElem_replicate l.isLt

theorem laneHolders_resetLane (ref : Nat) : laneHolders ref resetLane = 0 := rfl

/-- Settles O4: each block of the reset state is a constant, the sixteen lanes all the same one. -/
theorem invariantsHoldAtReset : Obligations.InvariantsHoldAtReset := by
  have hports : portOk resetPort := by
    refine ⟨nofun, Nat.zero_le _, nofun, fun _ => rfl⟩
  have hlane : laneShape resetLane := by
    refine ⟨Nat.zero_le _, ⟨Nat.zero_le _, .nil, nofun⟩, fun _ => ⟨rfl, rfl, rfl, rfl, rfl, rfl, rfl, rfl⟩, fun h => absurd rfl h,
      nofun, nofun⟩
  have hqueue : queueOrdered resetLane := ⟨nofun, .nil, nofun⟩
  have hholders : HoldersOk State.reset := by
    refine ⟨fun _ h => absurd h List.not_mem_nil, fun l => ?_⟩
    rw [laneOf_reset]
    exact ⟨fun _ h => absurd h List.not_mem_nil, fun _ h => absurd h List.not_mem_nil⟩
  refine ⟨⟨hports, hports⟩, ⟨Nat.zero_le _, .nil, fun _ h => absurd h List.not_mem_nil⟩,
    ⟨.nil, fun _ h => absurd h List.not_mem_nil, rfl, rfl⟩, nofun, hholders, fun l => ?_, fun l => ?_,
    fun l => ?_, fun l => ?_, fun _ => ⟨fun l => ?_, rfl, rfl⟩, nofun, nofun, ⟨Nat.zero_le _, .nil, nofun, Nat.zero_le _, nofun⟩, .nil,
    nofun, ⟨Nat.zero_le _, Nat.zero_le _, .nil⟩, rfl, ⟨?_, nofun⟩, by decide, by decide, by decide, by decide⟩
  · rw [laneOf_reset]
    exact hlane
  · rw [laneOf_reset]
    exact hqueue
  · rw [laneOf_reset]
    exact Nat.zero_le _
  · rw [laneOf_reset]
    exact ⟨by decide, by decide⟩
  · rw [laneOf_reset]
    rfl
  · intro r hr
    rw [List.mem_singleton.mp hr]
    decide

/-! ## Link events and reception -/

/-- Settles O5, from the equations of LINK_GAIN and LINK_LOSS in each link state. -/
theorem linkEvents : Obligations.LinkEvents := by
  intro p s
  refine ⟨fun down => ⟨congrArg _ (linkGain_of_down down), ?_⟩, fun up => ⟨?_, fun quiet => ?_, fun busy => ?_⟩⟩
  · exact congrArg _ (if_neg (by simp [down]))
  · exact congrArg _ (if_pos up)
  · refine congrArg _ ((linkLoss_of_up up).trans ?_)
    simp [abandonedPort, abandonNotice, quiet]
  · refine congrArg _ ((linkLoss_of_up up).trans ?_)
    simp [abandonedPort, abandonNotice, busy]

/-- Settles O6, from the equations of BLOCK_START and FRAMING_FAULT. -/
theorem receptionEvents : Obligations.ReceptionEvents := by
  intro p s
  refine ⟨fun down => ⟨?_, ?_, fun ws => ?_⟩, fun up quiet => ⟨?_, ?_⟩, fun up busy c opens hc => ?_⟩
  · exact congrArg _ (if_neg (by simp [down]))
  · exact congrArg _ (if_neg (by simp [down]))
  · exact congrArg _ (if_neg (by simp [down]))
  · refine congrArg _ ((blockStart_of_up up).trans ?_)
    simp [abandonedPort, abandonNotice, quiet]
  · exact congrArg _ (if_neg (by simp [quiet]))
  · simp only [List.mem_cons, List.not_mem_nil, or_false, Prod.mk.injEq] at hc
    rcases hc with ⟨rfl, rfl⟩ | ⟨rfl, rfl⟩
    · refine congrArg _ ((blockStart_of_up up).trans ?_)
      simp [abandonedPort, abandonNotice, busy]
    · exact congrArg _ ((if_pos (by simp [up, busy])).trans (abandonReception_eq p s))

/-! ## The completion checks (R13) -/

theorem lengthGood_iff {ws : List Word} :
    lengthGood ws = true ↔ 6 ≤ ws.length ∧ (ws.getD 5 0).toNat ≤ 256 ∧ ws.length = 7 + (ws.getD 5 0).toNat := by
  simp [lengthGood, lenOf, wordAt, Config.maxPayload]

theorem crcGood_iff {ws : List Word} :
    crcGood ws = true ↔ crc (ws.take (6 + (ws.getD 5 0).toNat)) = ws.getD (6 + (ws.getD 5 0).toNat) 0 := by
  simp [crcGood, lenOf, wordAt]

theorem kind_iff {w : Word} {k : BitVec 4} : (w.extractLsb' 12 4).toNat = k.toNat ↔ w.extractLsb' 12 4 = k :=
  ⟨fun h => BitVec.eq_of_toNat_eq h, fun h => by rw [h]⟩

theorem mediaGood_iff {ws : List Word} :
    mediaGood ws = true ↔ (ws.getD 0 0).extractLsb' 12 4 = 1 ∧ ws.getD 1 0 ≠ 0 ∧ ws.getD 1 0 ≠ 0xFFFF := by
  rw [← kind_iff (k := 1)]
  simp [mediaGood, kindOf, wordAt]

theorem controlGood_iff {ws : List Word} :
    controlGood ws = true ↔ (ws.getD 0 0).extractLsb' 12 4 = 2 ∧ ws.getD 1 0 = 0 := by
  rw [← kind_iff (k := 2)]
  simp [controlGood, kindOf, wordAt]

theorem checkCompleted_length {ws : List Word} (h : lengthGood ws = false) (p : PortId) (t : State) :
    checkCompleted p ws t = portError p (countPort p (fun c => { c with length := bump c.length }) t) := if_pos h

theorem checkCompleted_crc {ws : List Word} (length : lengthGood ws = true) (h : crcGood ws = false) (p : PortId) (t : State) :
    checkCompleted p ws t = portError p (countPort p (fun c => { c with crc := bump c.crc }) t) := by
  simp [checkCompleted, length, h]

theorem checkCompleted_kind {ws : List Word} (length : lengthGood ws = true) (good : crcGood ws = true)
    (media : mediaGood ws = false) (control : controlGood ws = false) (p : PortId) (t : State) :
    checkCompleted p ws t = portError p (countPort p (fun c => { c with kind := bump c.kind }) t) := by
  simp [checkCompleted, length, good, media, control]

theorem checkCompleted_media {ws : List Word} (length : lengthGood ws = true) (good : crcGood ws = true)
    (media : mediaGood ws = true) (p : PortId) (t : State) :
    checkCompleted p ws t = receiveMedia p (mediaOf ws) t := by
  simp [checkCompleted, length, good, media]

theorem checkCompleted_control {ws : List Word} (length : lengthGood ws = true) (good : crcGood ws = true)
    (media : mediaGood ws = false) (control : controlGood ws = true) (p : PortId) (t : State) :
    checkCompleted p ws t = receiveControl p { port := p, seq := wordAt ws 2, payload := payloadOf ws } t := by
  simp [checkCompleted, length, good, media, control]

/-- Settles O7: each failing check has its own equation of `checkCompleted`. -/
theorem badBlockIsCounted : Obligations.BadBlockIsCounted := by
  intro p ws s up n lengthPasses crcPasses kindPasses
  refine ⟨fun hl => ?_, fun hl hc => ?_, fun hl hc hk => ?_⟩
  · have length : lengthGood ws = false := by simpa [← lengthGood_iff, lengthPasses, n] using hl
    exact congrArg _ (blockComplete_bad up (checkCompleted_length length p))
  · have good : crcGood ws = false := by simpa [← crcGood_iff, crcPasses, n] using hc
    exact congrArg _ (blockComplete_bad up (checkCompleted_crc ((lengthGood_iff).mpr hl) good p))
  · have media : mediaGood ws = false := Bool.eq_false_iff.mpr fun h => hk (.inl ((mediaGood_iff).mp h))
    have control : controlGood ws = false := Bool.eq_false_iff.mpr fun h => hk (.inr ((controlGood_iff).mp h))
    exact congrArg _
      (blockComplete_bad up (checkCompleted_kind ((lengthGood_iff).mpr hl) ((crcGood_iff).mpr hc) media control p))

/-! ## A block as R2 lays it out -/

/-- The words of a block with its CRC (R2, R3). -/
def blockOf (w0 flow seq ptsHigh ptsLow : Word) (payload : List Word) : List Word :=
  let body := [w0, flow, seq, ptsHigh, ptsLow, BitVec.ofNat 16 payload.length] ++ payload
  body ++ [crc body]

section Laid

variable {w0 flow seq ptsHigh ptsLow : Word} {payload : List Word} (short : payload.length ≤ 256)
include short

theorem lenOf_blockOf : lenOf (blockOf w0 flow seq ptsHigh ptsLow payload) = payload.length := by
  have hmod : payload.length % 65536 = payload.length := Nat.mod_eq_of_lt (by omega)
  simp [blockOf, lenOf, wordAt, hmod]

theorem lengthGood_blockOf : lengthGood (blockOf w0 flow seq ptsHigh ptsLow payload) = true := by
  simp only [lengthGood, lenOf_blockOf short, Config.maxPayload, decide_eq_true_eq]
  simp [blockOf]
  omega

theorem crcGood_blockOf : crcGood (blockOf w0 flow seq ptsHigh ptsLow payload) = true := by
  have hlen : ([w0, flow, seq, ptsHigh, ptsLow, BitVec.ofNat 16 payload.length] ++ payload).length = 6 + payload.length := by
    simp
    omega
  simp only [crcGood, lenOf_blockOf short, decide_eq_true_eq, wordAt, ← hlen]
  simp only [blockOf, List.take_left, List.getD_eq_getElem?_getD, List.getElem?_concat_length, Option.getD_some]

theorem payloadOf_blockOf : payloadOf (blockOf w0 flow seq ptsHigh ptsLow payload) = payload := by
  rw [payloadOf, lenOf_blockOf short]
  simp [blockOf]

theorem mediaOf_blockOf :
    mediaOf (blockOf w0 flow seq ptsHigh ptsLow payload) =
      { flow := flow, seq := seq, pts := ptsHigh ++ ptsLow, marker := w0.getLsbD 1, disc := w0.getLsbD 0
        payload := payload } := by
  unfold mediaOf
  rw [payloadOf_blockOf short]
  rfl

end Laid

/-- Settles O8: the block as laid out passes the checks, and each outcome of `checkCompleted` has its equation. -/
theorem goodBlockKeepsEveryField : Obligations.GoodBlockKeepsEveryField := by
  intro p s w0 flow seq ptsHigh ptsLow payload up short body block x counters m
  have length : lengthGood block = true := lengthGood_blockOf short
  have good : crcGood block = true := crcGood_blockOf short
  have media (hk : w0.extractLsb' 12 4 = 1) (h0 : flow ≠ 0) (h1 : flow ≠ 0xFFFF) (t : State) :
      checkCompleted p block t = receiveMedia p m t :=
    (checkCompleted_media length good ((mediaGood_iff).mpr ⟨hk, h0, h1⟩) p t).trans
      (congrArg (receiveMedia p · t) (mediaOf_blockOf short))
  refine ⟨fun hk h0 h1 room => ?_, fun hk h0 h1 full => ?_, fun hk h0 => ?_⟩
  · exact congrArg _ (blockComplete_media up (media hk h0 h1) room)
  · exact congrArg _ (blockComplete_overflow up (media hk h0 h1) full)
  · have nomedia : mediaGood block = false := Bool.eq_false_iff.mpr fun h => ((mediaGood_iff).mp h).2.1 h0
    have control (t : State) : checkCompleted p block t = receiveControl p { port := p, seq := seq, payload := payload } t :=
      (checkCompleted_control length good nomedia ((controlGood_iff).mpr ⟨hk, h0⟩) p t).trans
        (congrArg (fun pl => receiveControl p { port := p, seq := seq, payload := pl } t) (payloadOf_blockOf short))
    exact congrArg _ (blockComplete_control up control)

end Sys2Proof.Reception
end


section
/-! The CRC of R3: one damaged word is told apart (O9). -/

namespace Sys2Proof.Crc

open Sys2Proof.Machine

/-- A bit of the register after one step: bit 0 tells whether the check polynomial was added. -/
theorem getLsbD_crcBit (r : Word) (b : Bool) (i : Nat) (hi : i < 16) :
    (crcBit r b).getLsbD i =
      ((decide (0 < i) && r.getLsbD (i - 1)) ^^ ((r.getLsbD 15 ^^ b) && (0x1021#16).getLsbD i)) := by
  have hmsb : r.msb = r.getLsbD 15 := BitVec.msb_eq_getLsbD_last r
  have hshift : (r <<< 1).getLsbD i = (decide (0 < i) && r.getLsbD (i - 1)) := by
    rw [BitVec.getLsbD_shiftLeft]
    cases i with
    | zero => simp
    | succ n => simp [hi]
  unfold crcBit
  rw [hmsb]
  split
  · next h => rw [hshift, h, Bool.xor_self, Bool.false_and, Bool.xor_false]
  · next h =>
    have hne : (r.getLsbD 15 ^^ b) = true := by simpa using h
    rw [BitVec.getLsbD_xor, hshift, hne, Bool.true_and]
    rfl

/-- Two registers and the bits fed to them agree in every place, wherever the registers agree at the end: at most 16 steps can be
traced back, each by bit 0 of the register it leaves. -/
theorem agree_of_foldl_crcBit {bs cs : List Bool} (hlen : bs.length = cs.length) (short : bs.length ≤ 16) {r q : Word}
    (h : bs.foldl crcBit r = cs.foldl crcBit q) (i : Nat) (hi : i < 16) :
    (r.getLsbD (15 - i) ^^ bs.getD i false) = (q.getLsbD (15 - i) ^^ cs.getD i false) := by
  induction bs generalizing cs r q i with
  | nil =>
    obtain rfl : cs = [] := List.length_eq_zero_iff.mp hlen.symm
    rw [show r = q from h]
  | cons b bs ih =>
    cases cs with
    | nil => cases hlen
    | cons c cs =>
      simp only [List.length_cons, Nat.add_right_cancel_iff] at hlen short
      have hstep (j : Nat) (hj : j < 16) := ih hlen (by omega) h j hj
      have hlast : (r.getLsbD 15 ^^ b) = (q.getLsbD 15 ^^ c) := by
        have h15 := hstep 15 (by omega)
        have hbs : bs.getD 15 false = false := List.getD_eq_default _ _ (by omega)
        have hcs : cs.getD 15 false = false := List.getD_eq_default _ _ (by omega)
        rw [hbs, hcs, getLsbD_crcBit _ _ _ (by omega), getLsbD_crcBit _ _ _ (by omega)] at h15
        simpa using h15
      cases i with
      | zero => exact hlast
      | succ i =>
        have hi' := hstep i (by omega)
        rw [getLsbD_crcBit _ _ _ (by omega), getLsbD_crcBit _ _ _ (by omega), hlast] at hi'
        have hpos : decide (0 < 15 - i) = true := by simp; omega
        rw [hpos, Bool.true_and, Bool.true_and] at hi'
        rw [List.getD_cons_succ, List.getD_cons_succ, show 15 - (i + 1) = 15 - i - 1 by omega]
        generalize r.getLsbD (15 - i - 1) = x at *
        generalize q.getLsbD (15 - i - 1) = y at *
        generalize ((q.getLsbD 15 ^^ c) && (0x1021#16).getLsbD (15 - i)) = z at *
        generalize bs.getD i false = u at *
        generalize cs.getD i false = v at *
        revert hi'
        revert x y z u v
        decide

/-- The bits of a word in the order in which they are fed. -/
def bitsOf (w : Word) : List Bool := (List.range 16).map fun k => w.getLsbD (15 - k)

theorem crcWord_eq (r w : Word) : crcWord r w = (bitsOf w).foldl crcBit r := by
  simp only [crcWord, bitsOf, List.foldl_map]

theorem getD_bitsOf (w : Word) (i : Nat) (hi : i < 16) : (bitsOf w).getD i false = w.getLsbD (15 - i) := by
  simp [bitsOf, hi]

/-- The register and the word fed to it come in as their exclusive or. -/
theorem xor_eq_of_crcWord {r q v w : Word} (h : crcWord r v = crcWord q w) : r ^^^ v = q ^^^ w := by
  rw [crcWord_eq, crcWord_eq] at h
  apply BitVec.eq_of_getLsbD_eq
  intro i hi
  have := agree_of_foldl_crcBit (by simp [bitsOf]) (by simp [bitsOf]) h (15 - i) (by omega)
  rw [getD_bitsOf _ _ (by omega), getD_bitsOf _ _ (by omega), show 15 - (15 - i) = i by omega] at this
  rw [BitVec.getLsbD_xor, BitVec.getLsbD_xor, this]

theorem crcWord_injective_register (w : Word) : Function.Injective fun r => crcWord r w := fun r q h =>
  BitVec.xor_right_inj w |>.mp (by rw [BitVec.xor_comm w r, BitVec.xor_comm w q]; exact xor_eq_of_crcWord h)

theorem crcWord_injective_word (r : Word) : Function.Injective (crcWord r) := fun _ _ h =>
  (BitVec.xor_right_inj r).mp (xor_eq_of_crcWord h)

theorem foldl_crcWord_injective (ws : List Word) : Function.Injective fun r => ws.foldl crcWord r := by
  induction ws with
  | nil => exact fun _ _ h => h
  | cons w ws ih => exact fun _ _ h => crcWord_injective_register w (ih h)

/-- Settles O9: the register tells the damaged word apart, and feeding the words behind it keeps registers apart. -/
theorem crcDetectsOneDamagedWord : Obligations.CrcDetectsOneDamagedWord := by
  intro before behind sent received hne heq
  simp only [crc, List.foldl_append, List.foldl_cons, List.foldl_nil] at heq
  exact hne (crcWord_injective_word _ (foldl_crcWord_injective behind heq))

end Sys2Proof.Crc
end


section
/-! A take, classified (O10..O13): the arbiter's choice, the outcomes of a classification, and what placement adds. -/

namespace Sys2Proof.Take

open Sys2Proof.Machine Sys2Proof.Safety Sys2Proof.Elementary Sys2Proof.Placement

/-! ## The arbiter and the block taken (R23, R24) -/

theorem servedPort_of_served {s : State} {p : PortId} (h : served s p) : servedPort s = some p := by
  obtain ⟨hne, hlast⟩ := h
  unfold servedPort
  cases p with
  | a =>
    cases ha : s.ports.a.buffer with
    | nil => exact absurd ha hne
    | cons x xs =>
      cases hb : s.ports.b.buffer with
      | nil => rfl
      | cons y ys => simp only [hlast (by simp [portOf, otherPort, perPort, hb])]; rfl
  | b =>
    cases hb : s.ports.b.buffer with
    | nil => exact absurd hb hne
    | cons x xs =>
      cases ha : s.ports.a.buffer with
      | nil => rfl
      | cons y ys => simp only [hlast (by simp [portOf, otherPort, perPort, ha])]; rfl

/-- The state from which the taken block is classified (R24). -/
def popped (p : PortId) (rest : List Media) (s : State) : State :=
  { s with
    ports := setPerPort s.ports p { portOf s p with buffer := rest }
    classifier := { s.classifier with lastServed := p } }

theorem exec_take {s : State} {p : PortId} {m : Media} {rest : List Media} (hs : served s p)
    (head : (portOf s p).buffer = m :: rest) : exec .take s = .next (classify m p (popped p rest s)) := by
  show Host.Outcome.next (takeBlock s) = _
  simp only [takeBlock, servedPort_of_served hs, takeFrom, head]
  rfl

theorem exec_take_of_empty {s : State} (ha : s.ports.a.buffer = []) (hb : s.ports.b.buffer = []) : exec .take s = .next s := by
  show Host.Outcome.next (takeBlock s) = _
  simp only [takeBlock, servedPort, ha, hb]

/-- A replaced entry, in the words of the statements. -/
theorem replaceFlow_eq {x e : FlowEntry} (h : x.flow = e.flow) (t : List FlowEntry) :
    replaceFlow x t = t.map fun y => if y.flow = e.flow then x else y := by
  rw [replaceFlow, h]

/-- Settles O10: no entry and a port outside the entry's set are the two discarding branches of `classify`. -/
theorem takeDiscardsUnservedFlows : Obligations.TakeDiscardsUnservedFlows := by
  refine ⟨fun s ha hb => exec_take_of_empty ha hb, fun s p m rest hs head => ⟨fun absent => ?_, fun e he outside => ?_⟩⟩
  · rw [exec_take hs head]
    have hnone : findFlow m.flow (popped p rest s).classifier.table = none := absent
    simp only [classify, hnone]
    rfl
  · rw [exec_take hs head]
    have hsome : findFlow m.flow (popped p rest s).classifier.table = some e := he
    simp only [classify, hsome, outside, if_true]
    rfl

/-! ## A block of an entry's flow, by a port in its set -/

/-- What the classification makes of the entry (R27). -/
abbrev judgedBy (p : PortId) (m : Media) (e : FlowEntry) : Judged := judge m.seq m.disc (evidence p e)

/-- The state of a discarded block, and the one placement starts from. -/
def judgedState (p : PortId) (rest : List Media) (m : Media) (e : FlowEntry) (s : State) : State :=
  requestAll (evidenceNotices p e ++ (judgedBy p m e).notices)
    (setTable (replaceFlow (judgedBy p m e).entry s.classifier.table) (popped p rest s))

theorem judgedBy_flow (p : PortId) (m : Media) (e : FlowEntry) : (judgedBy p m e).entry.flow = e.flow :=
  judge_flow m.seq m.disc (evidence p e)

section Taken

variable {s : State} {p : PortId} {m : Media} {rest : List Media} {e : FlowEntry} (h : takes s p m rest e)
include h

theorem exec_take_accepted (outcome : (judgedBy p m e).outcome = .accepted) :
    exec .take s = .next (place m p (judgedState p rest m e s)) := by
  obtain ⟨hs, head, he, inside⟩ := h
  rw [exec_take hs head]
  have hsome : findFlow m.flow (popped p rest s).classifier.table = some e := he
  simp only [classify, hsome, inside, Bool.true_eq_false, if_false, outcome]
  rfl

theorem exec_take_discarded (outcome : (judgedBy p m e).outcome ≠ .accepted) :
    exec .take s = .next (judgedState p rest m e s) := by
  obtain ⟨hs, head, he, inside⟩ := h
  rw [exec_take hs head]
  have hsome : findFlow m.flow (popped p rest s).classifier.table = some e := he
  simp only [classify, hsome, inside, Bool.true_eq_false, if_false]
  cases ho : (judgedBy p m e).outcome with
  | accepted => exact absurd ho outcome
  | duplicate => rfl
  | stale => rfl

end Taken

/-! ## What placement adds -/

/-- The notices placement requests (R53, R60). -/
def placeNotices (m : Media) (s : State) : List Notice :=
  allTestNotices m s ++
    if passingLanes m s ≠ [] ∧ storeHasRoom s.store m.payload.length = false then
      (if s.store.fullFlag then [] else [storeFullNotice s.store]) ++
        (passingLanes m s).flatMap fun l => refusalNotices l (some .store) (laneOf s l)
    else []

/-- The entry of an accepted block, after placement (R58). -/
def placedEntry (p : PortId) (m : Media) (e : FlowEntry) (s : State) : FlowEntry :=
  { (judgedBy p m e).entry with
    counters :=
      { (judgedBy p m e).entry.counters with
        unplaced :=
          if passingLanes m s = [] then bump (judgedBy p m e).entry.counters.unplaced
          else (judgedBy p m e).entry.counters.unplaced } }

theorem findFlow_map {f : Word} {t : List FlowEntry} {e x : FlowEntry} (h : findFlow f t = some e) (hx : x.flow = e.flow) :
    findFlow f (t.map fun y => if y.flow = e.flow then x else y) = some x := by
  have hf : e.flow = f := flow_of_findFlow h
  induction t with
  | nil => cases h
  | cons y ys ih =>
    by_cases hy : y.flow = f
    · simp [findFlow, hy, hf, hx]
    · have hys : findFlow f ys = some e := by simpa [findFlow, hy] using h
      have := ih hys
      simp only [findFlow, List.map_cons, hf, hy, if_false] at this ⊢
      rw [List.find?_cons_of_neg (by simpa using hy)]
      simpa [findFlow] using this

theorem refusalNotices_class {l : LaneId} {k : Option RefusalKind} {x : Lane} :
    ∀ n ∈ refusalNotices l k x, noticeClass n = 4 := by
  intro n hn
  unfold refusalNotices at hn
  split at hn
  · cases hn
  · cases k with
    | none => cases hn
    | some k =>
      rw [List.mem_singleton.mp hn]
      rfl

/-- Placement's notices are of the classes STORE and LANE (R60). -/
theorem placeNotices_class (m : Media) (s : State) : ∀ n ∈ placeNotices m s, noticeClass n = 3 ∨ noticeClass n = 4 := by
  intro n hn
  unfold placeNotices at hn
  rcases List.mem_append.mp hn with htest | hlost
  · obtain ⟨l, -, hl⟩ := List.mem_flatMap.mp htest
    unfold testNotices at hl
    split at hl
    · exact .inr (refusalNotices_class n hl)
    · cases hl
  · split at hlost
    · rcases List.mem_append.mp hlost with hfull | hstore
      · split at hfull
        · cases hfull
        · rw [List.mem_singleton.mp hfull]
          exact .inl rfl
      · obtain ⟨l, -, hl⟩ := List.mem_flatMap.mp hstore
        exact .inr (refusalNotices_class n hl)
    · cases hlost

/-- The blocks placement looks at are those the take began with. -/
theorem passingLanes_judgedState (p : PortId) (rest : List Media) (m : Media) (e : FlowEntry) (s : State) :
    passingLanes m (judgedState p rest m e s) = passingLanes m s := rfl

theorem countUnplaced_table {f : Word} {t : List FlowEntry} {e x : FlowEntry} (hf : e.flow = f) (hx : x.flow = e.flow) :
    ((t.map fun y => if y.flow = e.flow then x else y).map fun y =>
        if y.flow = f then { y with counters := { y.counters with unplaced := bump y.counters.unplaced } } else y) =
      t.map fun y =>
        if y.flow = e.flow then { x with counters := { x.counters with unplaced := bump x.counters.unplaced } } else y := by
  rw [List.map_map]
  refine List.map_congr_left fun y _ => ?_
  simp only [Function.comp]
  by_cases hy : y.flow = e.flow
  · rw [if_pos hy, if_pos hy, if_pos (hx.trans hf)]
  · rw [if_neg hy, if_neg hy, if_neg (hf ▸ hy)]

/-- What an accepted block leaves: its own port, entry, store, lanes and requests, and nothing else (R23, R24, R27, R34). -/
theorem take_accepted {s : State} {p : PortId} {m : Media} {rest : List Media} {e : FlowEntry} (h : takes s p m rest e)
    (outcome : (judgedBy p m e).outcome = .accepted) :
    ∃ t, exec .take s = .next t ∧ t = takenWith p rest e (placedEntry p m e s) s t ∧
      t.requests = s.requests ++ (evidenceNotices p e ++ (judgedBy p m e).notices) ++ placeNotices m s ∧
      t.lanes = (place m p s).lanes ∧ t.store = (place m p s).store := by
  refine ⟨_, exec_take_accepted h outcome, ?_⟩
  obtain ⟨-, -, he, -⟩ := h
  have hflow : e.flow = m.flow := flow_of_findFlow he
  have hsame : (judgedBy p m e).entry.flow = e.flow := judgedBy_flow p m e
  by_cases hnone : passingLanes m s = []
  · have hnotices : placeNotices m s = allTestNotices m s := by simp [placeNotices, hnone]
    have hentry : placedEntry p m e s =
        { (judgedBy p m e).entry with
          counters :=
            { (judgedBy p m e).entry.counters with unplaced := bump (judgedBy p m e).entry.counters.unplaced } } := by
      simp [placedEntry, hnone]
    rw [place_of_none (s := judgedState p rest m e s) hnone, place_of_none hnone, hnotices, hentry]
    refine ⟨?_, rfl, lanesWith_congr (s := s) (t := judgedState p rest m e s) rfl _ _, rfl⟩
    unfold countUnplaced judgedState
    rw [replaceFlow_eq hsame]
    simp only [setTable, setClassifier, requestAll, setRequests, countUnplaced_table hflow hsame]
    rfl
  · have hentry : placedEntry p m e s = (judgedBy p m e).entry := by simp [placedEntry, hnone]
    rw [hentry]
    cases room : storeHasRoom s.store m.payload.length with
    | true =>
      have hnotices : placeNotices m s = allTestNotices m s := by simp [placeNotices, room]
      rw [place_of_room (s := judgedState p rest m e s) hnone room, place_of_room hnone room, hnotices]
      refine ⟨?_, rfl, lanesWith_congr (s := s) (t := judgedState p rest m e s) rfl _ _, rfl⟩
      unfold judgedState
      rw [replaceFlow_eq hsame]
      rfl
    | false =>
      have hnotices : placeNotices m s =
          allTestNotices m s ++ ((if s.store.fullFlag then [] else [storeFullNotice s.store]) ++
            (passingLanes m s).flatMap fun l => refusalNotices l (some .store) (laneOf s l)) := by
        simp [placeNotices, room, hnone]
      rw [place_of_full (s := judgedState p rest m e s) hnone room, place_of_full hnone room, hnotices]
      refine ⟨?_, ?_, lanesWith_congr (s := s) (t := judgedState p rest m e s) rfl _ _, rfl⟩
      · unfold judgedState
        rw [replaceFlow_eq hsame]
        rfl
      · refine Eq.trans (b :=
          s.requests ++ (evidenceNotices p e ++ (judgedBy p m e).notices) ++ allTestNotices m s ++
            (if s.store.fullFlag then [] else [storeFullNotice s.store]) ++
            (passingLanes m s).flatMap fun l => refusalNotices l (some .store) (laneOf s l)) rfl ?_
        simp only [List.append_assoc]

theorem findFlow_takenWith {s t : State} {p : PortId} {m : Media} {rest : List Media} {e x : FlowEntry} (h : takes s p m rest e)
    (hx : x.flow = e.flow) (ht : t = takenWith p rest e x s t) : findFlow m.flow t.classifier.table = some x := by
  obtain ⟨-, -, he, -⟩ := h
  rw [ht]
  exact findFlow_map he hx

/-! ## The outcomes of a classification (R29..R33) -/

theorem judge_of_not_live {e : FlowEntry} (h : e.state ≠ .live) (q : Word) (disc : Bool) : judge q disc e = judgeFirst q e := by
  unfold judge
  split
  · rfl
  · rfl
  · next hlive => exact absurd hlive h

theorem judge_of_live {e : FlowEntry} (h : e.state = .live) (q : Word) (disc : Bool) :
    judge q disc e = judgeLive q disc (e.high.getD 0) e := by
  unfold judge
  rw [h]

/-- The sequence is H, or its mark is set behind it (R30, R31, R33). -/
abbrev isDuplicate (d : Nat) (e : FlowEntry) : Prop :=
  d = 0 ∨ (32768 ≤ d ∧ 65536 - d ≤ 31 ∧ e.window.getLsbD (65536 - d) = true)

section Live

variable {q h : Word} {disc : Bool} {e : FlowEntry}

theorem judgeLive_duplicate (dup : isDuplicate (q - h).toNat e) : judgeLive q disc h e = judgeDuplicate e := by
  rcases dup with hzero | hmarked
  · simp only [judgeLive]
    rw [if_pos hzero]
  · simp only [judgeLive]
    split <;> rfl

theorem judgeLive_fresh (fresh : ¬ isDuplicate (q - h).toNat e) :
    judgeLive q disc h e =
      if disc then judgeResync q .disc e
      else if (q - h).toNat < 32768 then judgeAhead q (q - h).toNat e
      else if 65536 - (q - h).toNat ≤ 31 then judgeRecovered (65536 - (q - h).toNat) e
      else judgeStale q e := by
  obtain ⟨hzero, hmarked⟩ := not_or.mp fresh
  simp only [judgeLive]
  rw [if_neg hzero, if_neg hmarked]

end Live

theorem getLsbD_word_one (i : Nat) : (1 : BitVec 32).getLsbD i = decide (i = 0) := by
  show (1#32).getLsbD i = _
  rw [BitVec.getLsbD_one]
  simp

theorem eq_iff_sub_toNat {q q0 : Word} : q = q0 ↔ (q0 - q).toNat = 0 := by bv_omega

/-- The marks of an entry that has resynced (R25). -/
theorem marked_of_resync {e : FlowEntry} {q0 : Word} (high : e.high = some q0) (window : e.window = 1) (q : Word) :
    marked e q = decide (q = q0) := by
  simp only [marked, high, window, getLsbD_word_one, eq_iff_sub_toNat]
  generalize (q0 - q).toNat = k
  by_cases hk : k = 0
  · simp [hk]
  · simp [hk]

/-- The marks of an entry H has advanced on (R30). -/
theorem marked_of_ahead {e e' : FlowEntry} {h q0 : Word} (high : e.high = some h) (high' : e'.high = some q0)
    (some_ahead : 1 ≤ (q0 - h).toNat) (far : (q0 - h).toNat ≤ 32767)
    (window : e'.window = (e.window <<< (q0 - h).toNat) ||| 1) (q : Word) :
    marked e' q = (decide (q = q0) || (marked e q && decide ((q0 - q).toNat ≤ 31))) := by
  simp only [marked, high, high', window, eq_iff_sub_toNat, BitVec.getLsbD_or, BitVec.getLsbD_shiftLeft, getLsbD_word_one]
  have hplace : (h - q).toNat + (q0 - h).toNat = (q0 - q).toNat ∨ (h - q).toNat + (q0 - h).toNat = (q0 - q).toNat + 65536 := by
    bv_omega
  have hbound : (h - q).toNat < 65536 := (h - q).isLt
  generalize (q0 - q).toNat = k at *
  generalize (q0 - h).toNat = d at *
  generalize (h - q).toNat = j at *
  by_cases hk : k < 32
  · rcases hplace with hj | hj
    · have hin : ¬ k < d := by omega
      have hne : k ≠ 0 := by omega
      have hwithin : j < 32 := by omega
      have heq : k - d = j := by omega
      have hle : k ≤ 31 := by omega
      simp [hk, hin, hne, hwithin, heq, hle]
    · have hin : j < 32 → False := by omega
      have hbefore : k < d := by omega
      have hnot : ¬ j < 32 := hin
      simp [hk, hnot, hbefore]
  · have hne : k ≠ 0 := by omega
    have hfar : ¬ k ≤ 31 := by omega
    simp [hk, hne, hfar]

/-- The marks of an entry that has recovered a sequence behind H (R31). -/
theorem marked_of_recovered {e e' : FlowEntry} {h q0 : Word} (high : e.high = some h) (high' : e'.high = some h)
    (behind : 32768 ≤ (q0 - h).toNat) (near : 65536 - (q0 - h).toNat ≤ 31)
    (window : e'.window = e.window ||| (1#32 <<< (65536 - (q0 - h).toNat))) (q : Word) :
    marked e' q = (decide (q = q0) || marked e q) := by
  have hplace : (q0 - q).toNat = 0 ↔ (h - q).toNat = 65536 - (q0 - h).toNat := by bv_omega
  have hone (i : Nat) : (1#32).getLsbD i = decide (i = 0) := getLsbD_word_one i
  simp only [marked, high, high', window, eq_iff_sub_toNat, hplace, BitVec.getLsbD_or, BitVec.getLsbD_shiftLeft, hone]
  generalize 65536 - (q0 - h).toNat = b at *
  generalize (h - q).toNat = j at *
  by_cases hj : j = b
  · simp [hj]
    omega
  · by_cases hwithin : j < 32
    · have hnot : ¬ (b ≤ j ∧ j - b = 0) := by omega
      simp [hwithin, hj]
      intro h1 h2
      exact absurd ⟨h1, h2⟩ hnot
    · simp [hj, hwithin]

/-! ## The obligations -/

/-- The condition of PATH_UP, in the order of the statements (R28). -/
theorem evidenceNotices_eq {e : FlowEntry} (live : e.state = .live) (p : PortId) :
    evidenceNotices p e =
      if e.ports = .both ∧ (perPort e.paths p).up = false ∧ (perPort e.paths (otherPort p)).up = true then
        [.pathUp e.flow p] else [] := by
  unfold evidenceNotices
  exact if_congr (by rw [and_iff_right live]; tauto) rfl rfl

theorem evidenceNotices_eq' (e : FlowEntry) (p : PortId) :
    evidenceNotices p e =
      if e.state = .live ∧ e.ports = .both ∧ (perPort e.paths p).up = false ∧ (perPort e.paths (otherPort p)).up = true then
        [.pathUp e.flow p] else [] := by
  unfold evidenceNotices
  exact if_congr (by tauto) rfl rfl

section Discarded

variable {s : State} {p : PortId} {m : Media} {rest : List Media} {e : FlowEntry} (h : takes s p m rest e)
include h

/-- A discarded block's state, in the words of the statements. -/
theorem exec_take_judged {x : FlowEntry} (live : e.state = .live)
    (judged : judgedBy p m e = { entry := x, outcome := (judgedBy p m e).outcome, notices := [] })
    (outcome : (judgedBy p m e).outcome ≠ .accepted) :
    exec .take s =
      .next
        { s with
          ports := setPerPort s.ports p { portOf s p with buffer := rest }
          classifier :=
            { s.classifier with
              lastServed := p
              table := s.classifier.table.map fun y => if y.flow = e.flow then x else y }
          requests :=
            s.requests ++
              if e.ports = .both ∧ (perPort e.paths p).up = false ∧ (perPort e.paths (otherPort p)).up = true then
                [.pathUp e.flow p] else [] } := by
  have hentry : (judgedBy p m e).entry = x := by rw [judged]
  have hnotices : (judgedBy p m e).notices = [] := by rw [judged]
  have hsame : x.flow = e.flow := by rw [← hentry]; exact judgedBy_flow p m e
  rw [exec_take_discarded h outcome, judgedState, hentry, hnotices, List.append_nil, evidenceNotices_eq live,
    replaceFlow_eq hsame]
  rfl

end Discarded

/-- Settles O13: the two outcomes of a classification that are no acceptance. -/
theorem takeDuplicateOrStale : Obligations.TakeDuplicateOrStale := by
  intro s p m rest e h htakes live high d after paths
  have hlive : judgedBy p m e = judgeLive m.seq m.disc h (evidence p e) := by
    rw [judgedBy, judge_of_live (e := evidence p e) live]
    simp [evidence, high]
  refine ⟨fun dup => ?_, fun disc behind far run => ?_⟩
  · have hdup : judgedBy p m e = judgeDuplicate (evidence p e) := hlive.trans (judgeLive_duplicate dup)
    refine exec_take_judged htakes live ?_ ?_
    · rw [hdup]
      rfl
    · rw [hdup]
      nofun
  · have hfresh : ¬ isDuplicate (m.seq - h).toNat (evidence p e) := by
      rintro (hzero | ⟨-, hnear, -⟩) <;> simp only [d] at * <;> omega
    have hstale : judgedBy p m e =
        { entry :=
            { evidence p e with
              staleRun := e.staleRun + 1
              counters := { e.counters with stale := bump e.counters.stale } }
          outcome := .stale
          notices := [] } := by
      rw [hlive, judgeLive_fresh hfresh, disc, if_neg Bool.false_ne_true, if_neg (by omega), if_neg (by omega), judgeStale]
      exact if_neg (by simp [evidence, Config.staleRunLimit]; omega)
    refine exec_take_judged htakes live ?_ ?_
    · rw [hstale]
      rfl
    · rw [hstale]
      nofun

end Sys2Proof.Take
end


section
/-! Accepted blocks: the resyncs, the advances and the recoveries (O11, O12), and what placement does for them (O14, O15). -/

namespace Sys2Proof.Take

open Sys2Proof.Machine Sys2Proof.Safety Sys2Proof.Elementary Sys2Proof.Placement

theorem placedEntry_eq {p : PortId} {m : Media} {e : FlowEntry} {s : State} {x : FlowEntry} (hx : (judgedBy p m e).entry = x) :
    placedEntry p m e s =
      { x with counters := { x.counters with unplaced := (placedEntry p m e s).counters.unplaced } } := by
  rw [← hx]
  rfl

theorem placedEntry_flow (p : PortId) (m : Media) (e : FlowEntry) (s : State) : (placedEntry p m e s).flow = e.flow :=
  judgedBy_flow p m e

/-- The entry a resync leaves, its marks and unplaced aside (R25, R28, R29, R32, R33). -/
def resynced (p : PortId) (m : Media) (e : FlowEntry) : FlowEntry :=
  { e with
    state := .live, paths := setPerPort e.paths p { up := true, silence := 0 }, high := some m.seq, window := 1, staleRun := 0
    counters :=
      { e.counters with
        accepted := bump e.counters.accepted
        resyncs := if e.state = .live then bump e.counters.resyncs else e.counters.resyncs } }

/-- The notices of a resync (R29, R32, R33). -/
def resyncNotices (m : Media) (e : FlowEntry) : List Notice :=
  if e.state = .silent then [.flowResumed e.flow]
  else if e.state = .armed then []
  else if m.disc then [.flowResync e.flow .disc] else [.flowResync e.flow .staleRun]

section Judged

variable {p : PortId} {m : Media} {e : FlowEntry}

/-- A LIVE entry is judged against its highest accepted sequence. -/
theorem judgedBy_of_live (live : e.state = .live) :
    judgedBy p m e = judgeLive m.seq m.disc (e.high.getD 0) (evidence p e) :=
  judge_of_live (e := evidence p e) live m.seq m.disc

theorem judgedBy_first (h : e.state ≠ .live) :
    judgedBy p m e = { entry := resynced p m e, outcome := .accepted, notices := resyncNotices m e } := by
  rw [judgedBy, judge_of_not_live (e := evidence p e) h]
  unfold resynced resyncNotices
  rw [if_neg h]
  cases hs : e.state with
  | armed =>
    simp [judgeFirst, resync, evidence, hs]
  | silent =>
    simp [judgeFirst, resync, evidence, hs]
  | live => exact absurd hs h

theorem judgeResync_evidence (live : e.state = .live) {cause : ResyncCause} (hcause : cause = if m.disc then .disc else .staleRun) :
    judgeResync m.seq cause (evidence p e) =
      { entry := resynced p m e, outcome := .accepted, notices := resyncNotices m e } := by
  cases hd : m.disc <;> simp [judgeResync, resync, evidence, resynced, resyncNotices, live, hcause, hd]

theorem judgedBy_disc (live : e.state = .live) (disc : m.disc = true) (fresh : ¬ isDuplicate (m.seq - e.high.getD 0).toNat e) :
    judgedBy p m e = { entry := resynced p m e, outcome := .accepted, notices := resyncNotices m e } := by
  rw [judgedBy_of_live live, judgeLive_fresh (e := evidence p e) fresh, if_pos disc]
  exact judgeResync_evidence live (by simp [disc])

theorem judgedBy_eighth (live : e.state = .live) (disc : m.disc = false) (behind : 32768 ≤ (m.seq - e.high.getD 0).toNat)
    (far : 32 ≤ 65536 - (m.seq - e.high.getD 0).toNat) (run : 7 ≤ e.staleRun) :
    judgedBy p m e = { entry := resynced p m e, outcome := .accepted, notices := resyncNotices m e } := by
  have fresh : ¬ isDuplicate (m.seq - e.high.getD 0).toNat (evidence p e) := by
    rintro (hzero | ⟨-, hnear, -⟩) <;> omega
  rw [judgedBy_of_live live, judgeLive_fresh fresh, if_neg (by simp [disc]), if_neg (by omega), if_neg (by omega), judgeStale,
    if_pos (by simp [evidence, Config.staleRunLimit]; omega)]
  exact judgeResync_evidence live (by simp [disc])

theorem judgedBy_ahead (live : e.state = .live) (disc : m.disc = false) (some_ahead : 1 ≤ (m.seq - e.high.getD 0).toNat)
    (near : (m.seq - e.high.getD 0).toNat ≤ 32767) :
    judgedBy p m e = judgeAhead m.seq (m.seq - e.high.getD 0).toNat (evidence p e) := by
  have fresh : ¬ isDuplicate (m.seq - e.high.getD 0).toNat (evidence p e) := by
    rintro (hzero | ⟨hbehind, -⟩) <;> omega
  rw [judgedBy_of_live live, judgeLive_fresh fresh, if_neg (by simp [disc]), if_pos (by omega)]

theorem judgedBy_recovered (live : e.state = .live) (disc : m.disc = false) (behind : 32768 ≤ (m.seq - e.high.getD 0).toNat)
    (near : 65536 - (m.seq - e.high.getD 0).toNat ≤ 31)
    (clear : e.window.getLsbD (65536 - (m.seq - e.high.getD 0).toNat) = false) :
    judgedBy p m e = judgeRecovered (65536 - (m.seq - e.high.getD 0).toNat) (evidence p e) := by
  have fresh : ¬ isDuplicate (m.seq - e.high.getD 0).toNat (evidence p e) := by
    rintro (hzero | ⟨-, -, hmarked⟩)
    · omega
    · exact Bool.false_ne_true (clear.symm.trans hmarked)
  rw [judgedBy_of_live live, judgeLive_fresh fresh, if_neg (by simp [disc]), if_neg (by omega), if_pos near]

end Judged

/-- Settles O11: the three ways of a resync leave the same entry. -/
theorem takeResyncs : Obligations.TakeResyncs := by
  intro s p m rest e htakes h d inWindow isFirst isDisc isEighth hcase
  have hjudged : judgedBy p m e = { entry := resynced p m e, outcome := .accepted, notices := resyncNotices m e } := by
    rcases hcase with hfirst | ⟨live, disc, hfresh⟩ | ⟨live, disc, behind, far, run⟩
    · exact judgedBy_first hfirst
    · exact judgedBy_disc live disc hfresh
    · exact judgedBy_eighth live disc behind far (by omega)
  obtain ⟨t, hexec, ht, hrequests, -, -⟩ := take_accepted htakes (by rw [hjudged])
  have hentry : placedEntry p m e s =
      { resynced p m e with
        counters := { (resynced p m e).counters with unplaced := (placedEntry p m e s).counters.unplaced } } :=
    placedEntry_eq (by rw [hjudged])
  have hhigh : (placedEntry p m e s).high = some m.seq := by rw [hentry]; rfl
  have hwindow : (placedEntry p m e s).window = 1 := by rw [hentry]; rfl
  refine ⟨t, placedEntry p m e s, hexec, ht, findFlow_takenWith htakes (placedEntry_flow p m e s) ht,
    marked_of_resync hhigh hwindow, ?_, placeNotices m s, placeNotices_class m s, ?_⟩
  · rw [hwindow]
    exact hentry
  · rw [hrequests, hjudged, evidenceNotices_eq', ← List.append_assoc]
    rfl

/-- Settles O12: the equations of the two outcomes, the marks of each, and what placement adds. -/
theorem takeAdvancesOrRecovers : Obligations.TakeAdvancesOrRecovers := by
  intro s p m rest e h htakes live high disc d paths pathUp
  have hd : (m.seq - e.high.getD 0).toNat = d := by rw [high]; rfl
  have hpathUp : evidenceNotices p e = pathUp := evidenceNotices_eq live p
  refine ⟨fun some_ahead near => ?_, fun behind near clear => ?_⟩
  · have hjudged : judgedBy p m e = judgeAhead m.seq d (evidence p e) := by
      rw [judgedBy_ahead live disc (by omega) (by omega), hd]
    obtain ⟨t, hexec, ht, hrequests, -, -⟩ := take_accepted htakes (by rw [hjudged]; rfl)
    have hentry := placedEntry_eq (s := s) (congrArg Judged.entry hjudged)
    have hhigh : (placedEntry p m e s).high = some m.seq := by rw [hentry]; rfl
    have hwindow : (placedEntry p m e s).window = (e.window <<< d) ||| 1 := by rw [hentry]; rfl
    refine ⟨t, placedEntry p m e s, placeNotices m s, hexec, ht, findFlow_takenWith htakes (placedEntry_flow p m e s) ht,
      placeNotices_class m s, marked_of_ahead high hhigh some_ahead near hwindow, ?_, ?_⟩
    · rw [hwindow]
      exact hentry
    · rw [hrequests, hjudged, hpathUp, ← List.append_assoc]
      rfl
  · have hjudged : judgedBy p m e = judgeRecovered (65536 - d) (evidence p e) := by
      rw [judgedBy_recovered live disc (by omega) (by omega) (by rw [hd]; exact clear), hd]
    obtain ⟨t, hexec, ht, hrequests, -, -⟩ := take_accepted htakes (by rw [hjudged]; rfl)
    have hentry := placedEntry_eq (s := s) (congrArg Judged.entry hjudged)
    have hhigh : (placedEntry p m e s).high = some h := by rw [hentry]; exact high
    have hwindow : (placedEntry p m e s).window = e.window ||| (1#32 <<< (65536 - d)) := by rw [hentry]; rfl
    refine ⟨t, placedEntry p m e s, placeNotices m s, hexec, ht, findFlow_takenWith htakes (placedEntry_flow p m e s) ht,
      placeNotices_class m s, marked_of_recovered high hhigh behind near hwindow, ?_, ?_⟩
    · rw [hwindow]
      exact hentry
    · rw [hrequests, hjudged, hpathUp]
      exact congrArg (s.requests ++ · ++ placeNotices m s) (List.append_nil pathUp)

end Sys2Proof.Take
end


section
/-! Placement of an accepted block (O14, O15): the records and entries it makes, the refusals it counts and announces. -/

namespace Sys2Proof.Take

open Sys2Proof.Machine Sys2Proof.Safety Sys2Proof.Elementary Sys2Proof.Placement

/-- The outcome of an accepted block (R29..R33). -/
structure AcceptedBy (p : PortId) (m : Media) (e : FlowEntry) : Prop where
  outcome : (judgedBy p m e).outcome = .accepted
  notices : evidenceNotices p e ++ (judgedBy p m e).notices = flowNotices p m e
  unplaced : (judgedBy p m e).entry.counters.unplaced = e.counters.unplaced

theorem flowNotices_of_not_live {p : PortId} {m : Media} {e : FlowEntry} (h : e.state ≠ .live) :
    flowNotices p m e = evidenceNotices p e ++ resyncNotices m e := by
  unfold flowNotices resyncNotices
  rw [evidenceNotices_eq']
  cases hs : e.state with
  | armed => simp
  | silent => simp
  | live => exact absurd hs h

theorem flowNotices_of_live {p : PortId} {m : Media} {e : FlowEntry} (live : e.state = .live) :
    flowNotices p m e =
      evidenceNotices p e ++
        if m.disc then [.flowResync e.flow .disc]
        else if 32767 < (m.seq - e.high.getD 0).toNat then
          (if 65536 - (m.seq - e.high.getD 0).toNat ≤ 31 then [] else [.flowResync e.flow .staleRun])
        else if 1 < (m.seq - e.high.getD 0).toNat ∧ e.gapFlag = false then
          [.flowGap e.flow (BitVec.ofNat 16 ((m.seq - e.high.getD 0).toNat - 1))]
        else [] := by
  unfold flowNotices
  rw [evidenceNotices_eq', live]

theorem resyncNotices_of_live {m : Media} {e : FlowEntry} (live : e.state = .live) :
    resyncNotices m e = if m.disc then [.flowResync e.flow .disc] else [.flowResync e.flow .staleRun] := by
  unfold resyncNotices
  rw [live]
  rfl

theorem acceptedBy_of_accepts {m : Media} {e : FlowEntry} (h : accepts m e) (p : PortId) : AcceptedBy p m e := by
  rcases h with hfirst | ⟨hfresh, hways⟩
  · have hj := judgedBy_first (p := p) (m := m) hfirst
    exact ⟨by rw [hj], by rw [hj, flowNotices_of_not_live hfirst], by rw [hj]; rfl⟩
  · by_cases hlive : e.state = .live
    · have hnotices := flowNotices_of_live (p := p) (m := m) hlive
      by_cases hdisc : m.disc = true
      · have hj := judgedBy_disc (p := p) hlive hdisc hfresh
        refine ⟨by rw [hj], ?_, by rw [hj]; rfl⟩
        rw [hj, hnotices, resyncNotices_of_live hlive, if_pos hdisc, if_pos hdisc]
      · have hclear : m.disc = false := by simpa using hdisc
        rw [if_neg hdisc] at hnotices
        obtain ⟨hne, hnot⟩ := not_or.mp hfresh
        by_cases hahead : (m.seq - e.high.getD 0).toNat ≤ 32767
        · have hj := judgedBy_ahead (p := p) hlive hclear (by omega) hahead
          refine ⟨by rw [hj]; rfl, ?_, by rw [hj]; rfl⟩
          rw [hj, hnotices, if_neg (by omega)]
          rfl
        · rw [if_pos (by omega)] at hnotices
          by_cases hnear : 65536 - (m.seq - e.high.getD 0).toNat ≤ 31
          · have hmark : e.window.getLsbD (65536 - (m.seq - e.high.getD 0).toNat) = false :=
              Bool.eq_false_iff.mpr fun hm => hnot ⟨by omega, hnear, hm⟩
            have hj := judgedBy_recovered (p := p) hlive hclear (by omega) hnear hmark
            refine ⟨by rw [hj]; rfl, ?_, by rw [hj]; rfl⟩
            rw [hj, hnotices, if_pos hnear]
            rfl
          · have hrun : 7 ≤ e.staleRun := by
              rcases hways with hd | hd | hd | hd
              · exact absurd hd hdisc
              · exact absurd hd hahead
              · exact absurd hd hnear
              · exact hd
            have hj := judgedBy_eighth (p := p) hlive hclear (by omega) (by omega) hrun
            refine ⟨by rw [hj], ?_, by rw [hj]; rfl⟩
            rw [hj, hnotices, if_neg hnear, resyncNotices_of_live hlive, if_neg hdisc]
    · have hj := judgedBy_first (p := p) (m := m) hlive
      exact ⟨by rw [hj], by rw [hj, flowNotices_of_not_live hlive], by rw [hj]; rfl⟩

/-! ## The passing lanes and the store -/

theorem mem_passingLanes_iff {m : Media} {s : State} {l : LaneId} : l ∈ passingLanes m s ↔ passes s.time.tb m (laneOf s l) :=
  (mem_passingLanes).trans lanePasses_iff

theorem passingLanes_eq_nil {m : Media} {s : State} : passingLanes m s = [] ↔ ∀ l, ¬ passes s.time.tb m (laneOf s l) := by
  rw [List.eq_nil_iff_forall_not_mem]
  exact forall_congr' fun l => not_congr mem_passingLanes_iff

theorem passingLanes_ne_nil {m : Media} {s : State} : passingLanes m s ≠ [] ↔ ∃ l, passes s.time.tb m (laneOf s l) := by
  rw [ne_eq, passingLanes_eq_nil, not_forall_not]

theorem storeHasRoom_iff {st : Store} {n : Nat} :
    storeHasRoom st n = true ↔ 1 ≤ st.freeRecords ∧ (n + 31) / 32 ≤ st.freeCells := by
  unfold storeHasRoom cellsFor
  exact decide_eq_true_iff

/-- A take that is accepted, in the words of the statements. -/
theorem take_of_accepts {s : State} {p : PortId} {m : Media} {rest : List Media} {e : FlowEntry} (h : takes s p m rest e)
    (haccepts : accepts m e) :
    ∃ t, exec .take s = .next t ∧ t = takenWith p rest e (placedEntry p m e s) s t ∧
      findFlow m.flow t.classifier.table = some (placedEntry p m e s) ∧
      t.requests = s.requests ++ flowNotices p m e ++ placeNotices m s ∧
      (placedEntry p m e s).counters.unplaced =
        (if passingLanes m s = [] then bump e.counters.unplaced else e.counters.unplaced) ∧
      t.store = (place m p s).store ∧ ∀ l, laneOf t l = laneOf (place m p s) l := by
  have haccepted := acceptedBy_of_accepts haccepts p
  obtain ⟨t, hexec, ht, hrequests, hlanes, hstore⟩ := take_accepted h haccepted.outcome
  refine ⟨t, hexec, ht, findFlow_takenWith h (placedEntry_flow p m e s) ht, ?_, ?_, hstore, fun l => ?_⟩
  · rw [hrequests, haccepted.notices]
  · rw [← haccepted.unplaced]
    rfl
  · rw [laneOf, laneOf, hlanes]

/-- Settles O14: a successful placement inserts one record and one entry on each passing lane. -/
theorem placementInsertsEntries : Obligations.PlacementInsertsEntries := by
  intro s p m rest e htakes haccepts hstore hpasses hrecords hcells
  have hne := (passingLanes_ne_nil).mpr hpasses
  have hroom := (storeHasRoom_iff).mpr ⟨hrecords, hcells⟩
  have hplaced := place_of_room hne hroom p
  obtain ⟨t, hexec, ht, -, -, -, hst, hlanes⟩ := take_of_accepts htakes haccepts
  obtain ⟨before, behind, hold, hnew, -⟩ :=
    insertRecord_inserted { ref := nextRef s.store, payload := m.payload, holders := (passingLanes m s).length } s.store.records
  refine ⟨t, placedEntry p m e s, nextRef s.store, before, behind, (passingLanes m s).length, hexec, ht, hold,
    nextRef_not_mem hstore, ?_, ⟨passingLanes m s, nodup_passingLanes m s, rfl, fun l => mem_passingLanes_iff⟩, fun l => ?_⟩
  · rw [hst, hplaced]
    simp only [storeBlock, hnew, List.append_assoc]
    rfl
  · have hlane : laneOf t l =
        if l ∈ passingLanes m s then insertedLane m p (nextRef s.store) (laneOf s l)
        else testedLane m s.time.tb (laneOf s l) := by
      rw [hlanes, hplaced]
      exact laneOf_of_all_lanes (s := s)
        (g := fun l x => if l ∈ passingLanes m s then insertedLane m p (nextRef s.store) x else testedLane m s.time.tb x) rfl l
    refine ⟨fun hnot => ?_, fun hpass => ?_⟩
    · rw [hlane, if_neg (mt (mem_passingLanes_iff).mp hnot)]
      unfold testedLane
      split <;> rfl
    · rw [hlane, if_pos ((mem_passingLanes_iff).mpr hpass)]
      obtain ⟨ahead, after, hqueue, hinserted, hahead, hafter⟩ :=
        insertEntry_inserted (laneOf s l).datum (entryFor (laneOf s l).config m p (nextRef s.store)) (laneOf s l).queue
      refine ⟨ahead, after, hqueue, ?_, hahead, hafter⟩
      rw [insertedLane, hinserted, List.append_assoc]
      rfl

/-! ## Refusals (R57, R60) -/

section Tests

variable {m : Media} {tb : Tick} {x : Lane}

theorem testedLane_of_not_candidate (h : ¬ candidate m x) : testedLane m tb x = x :=
  if_neg (mt (isCandidate_iff).mp h)

theorem testNotices_of_not_candidate (h : ¬ candidate m x) (l : LaneId) : testNotices m tb l x = [] :=
  if_neg (mt (isCandidate_iff).mp h)

theorem testedLane_of_test {r : LaneTest} (h : candidate m x) (ht : testLane x tb m = r) :
    testedLane m tb x = { x with counters := countTest r x.counters, refused := x.refused || (lacksRoom r).isSome } := by
  rw [testedLane, if_pos ((isCandidate_iff).mpr h), ht]

theorem testNotices_of_test {r : LaneTest} (h : candidate m x) (ht : testLane x tb m = r) (l : LaneId) :
    testNotices m tb l x = refusalNotices l (lacksRoom r) x := by
  rw [testNotices, if_pos ((isCandidate_iff).mpr h), ht]

theorem testLane_late (h : refusedLate m x) : testLane x tb m = .late := by
  rcases testLane_cases x tb m with ⟨ht, -⟩ | ⟨-, h'⟩ | ⟨-, h'⟩ | ⟨-, h'⟩ | ⟨-, h'⟩
  · exact ht
  all_goals exact absurd h h'.1

theorem testLane_early (h : refusedEarly tb m x) : testLane x tb m = .early := by
  rcases testLane_cases x tb m with ⟨-, h'⟩ | ⟨ht, -⟩ | ⟨-, h'⟩ | ⟨-, h'⟩ | ⟨-, h'⟩
  · exact absurd h' h.1
  · exact ht
  all_goals exact absurd h h'.2.1

theorem testLane_queueFull (h : refusedQueueFull tb m x) : testLane x tb m = .queueFull := by
  obtain ⟨hlate, hearly, hfull⟩ := h
  rcases testLane_cases x tb m with ⟨-, h'⟩ | ⟨-, h'⟩ | ⟨ht, -⟩ | ⟨-, h'⟩ | ⟨-, h'⟩
  · exact absurd h' hlate
  · exact absurd h' hearly
  · exact ht
  all_goals exact absurd h'.2.2.1 (Nat.not_lt.mpr hfull)

theorem testLane_quota (h : refusedQuota tb m x) : testLane x tb m = .quota := by
  obtain ⟨hlate, hearly, hroom, hquota⟩ := h
  rcases testLane_cases x tb m with ⟨-, h'⟩ | ⟨-, h'⟩ | ⟨-, h'⟩ | ⟨ht, -⟩ | ⟨-, h'⟩
  · exact absurd h' hlate
  · exact absurd h' hearly
  · exact absurd hroom (Nat.not_lt.mpr h'.2.2)
  · exact ht
  · exact absurd hquota (Nat.not_lt.mpr h'.2.2.2)

/-- A lane's notices of its tests, in the words of the statements (R60). -/
theorem testNotices_eq (l : LaneId) :
    testNotices m tb l x =
      if x.refused = false ∧ candidate m x ∧ refusedQueueFull tb m x then [.laneRefused l .queue]
      else if x.refused = false ∧ candidate m x ∧ refusedQuota tb m x then [.laneRefused l .quota] else [] := by
  by_cases hcandidate : candidate m x
  · rcases testLane_cases x tb m with ⟨ht, h⟩ | ⟨ht, h⟩ | ⟨ht, h⟩ | ⟨ht, h⟩ | ⟨ht, h⟩ <;>
      rw [testNotices_of_test hcandidate ht]
    · rw [if_neg fun hc => hc.2.2.1 h, if_neg fun hc => hc.2.2.1 h]
      cases hr : x.refused <;> simp [refusalNotices, lacksRoom]
    · rw [if_neg fun hc => hc.2.2.2.1 h, if_neg fun hc => hc.2.2.2.1 h]
      cases hr : x.refused <;> simp [refusalNotices, lacksRoom]
    · cases hr : x.refused with
      | true => simp [refusalNotices, hr]
      | false =>
        rw [if_pos ⟨rfl, hcandidate, h⟩]
        simp [refusalNotices, lacksRoom, hr]
    · rw [if_neg fun hc => absurd hc.2.2.2.2 (Nat.not_le.mpr h.2.2.1)]
      cases hr : x.refused with
      | true => simp [refusalNotices, hr]
      | false =>
        rw [if_pos ⟨rfl, hcandidate, h⟩]
        simp [refusalNotices, lacksRoom, hr]
    · rw [if_neg fun hc => absurd hc.2.2.2.2 (Nat.not_le.mpr h.2.2.1),
        if_neg fun hc => absurd hc.2.2.2.2.2 (Nat.not_lt.mpr h.2.2.2)]
      cases hr : x.refused <;> simp [refusalNotices, lacksRoom]
  · rw [testNotices_of_not_candidate hcandidate, if_neg fun hc => hcandidate hc.2.1, if_neg fun hc => hcandidate hc.2.1]

end Tests

/-- A notice for each element of a filtered list is one for each element that passes. -/
theorem flatMap_filter_eq {α β : Type} (p : α → Bool) (f g : α → List β) (ls : List α)
    (h : ∀ a, g a = if p a then f a else []) : (ls.filter p).flatMap f = ls.flatMap g := by
  induction ls with
  | nil => rfl
  | cons a as ih =>
    cases hp : p a with
    | true => rw [List.filter_cons_of_pos hp, List.flatMap_cons, List.flatMap_cons, ih, h, if_pos hp]
    | false =>
      rw [List.filter_cons_of_neg (by simp [hp]), List.flatMap_cons, ih, h, if_neg (by simp [hp]), List.nil_append]

/-- The lanes that lose the block to the store, in the words of the statements (R60). -/
theorem storeRefusals_eq (m : Media) (s : State) :
    ((passingLanes m s).flatMap fun l => refusalNotices l (some .store) (laneOf s l)) =
      (List.finRange 16).flatMap fun l =>
        if (laneOf s l).refused = false ∧ passes s.time.tb m (laneOf s l) then [.laneRefused l .store] else [] := by
  refine flatMap_filter_eq _ _ _ _ fun l => ?_
  have hpass : (isCandidate m.flow (laneOf s l) && decide (testLane (laneOf s l) s.time.tb m = .pass)) = true ↔
      passes s.time.tb m (laneOf s l) := lanePasses_iff (x := laneOf s l)
  by_cases h : passes s.time.tb m (laneOf s l)
  · rw [if_pos (hpass.mpr h)]
    cases hr : (laneOf s l).refused with
    | true => rw [refusalNotices, if_pos hr, if_neg fun hc => by cases hc.1]
    | false =>
      rw [refusalNotices, if_neg (show ¬ (laneOf s l).refused = true by simp [hr]), if_pos ⟨rfl, h⟩]
      rfl
  · rw [if_neg (mt hpass.mp h), if_neg fun hc => h hc.2]

/-- The notices of all lanes' tests, in the words of the statements. -/
theorem allTestNotices_eq (m : Media) (s : State) :
    allTestNotices m s =
      (List.finRange 16).flatMap fun l =>
        if (laneOf s l).refused = false ∧ candidate m (laneOf s l) ∧ refusedQueueFull s.time.tb m (laneOf s l) then
          [.laneRefused l .queue]
        else if (laneOf s l).refused = false ∧ candidate m (laneOf s l) ∧ refusedQuota s.time.tb m (laneOf s l) then
          [.laneRefused l .quota]
        else [] :=
  List.flatMap_congr fun l _ => testNotices_eq l

/-- A lane after placement (R57, R59). -/
theorem laneOf_place (m : Media) (p : PortId) (s : State) (l : LaneId) :
    laneOf (place m p s) l =
      if l ∈ passingLanes m s then
        if storeHasRoom s.store m.payload.length then insertedLane m p (nextRef s.store) (laneOf s l) else lostLane (laneOf s l)
      else testedLane m s.time.tb (laneOf s l) := by
  by_cases hnone : passingLanes m s = []
  · rw [place_of_none hnone, hnone, if_neg List.not_mem_nil]
    exact laneOf_of_all_lanes (s := s) (g := fun _ => testedLane m s.time.tb) rfl l
  · cases room : storeHasRoom s.store m.payload.length with
    | true =>
      rw [place_of_room hnone room]
      exact laneOf_of_all_lanes (s := s)
        (g := fun l x => if l ∈ passingLanes m s then insertedLane m p (nextRef s.store) x else testedLane m s.time.tb x) rfl l
    | false =>
      rw [place_of_full hnone room]
      exact laneOf_of_all_lanes (s := s)
        (g := fun l x => if l ∈ passingLanes m s then lostLane x else testedLane m s.time.tb x) rfl l

/-- Settles O15: the equations of placement, lane by lane, and its notices in order. -/
theorem placementCountsRefusals : Obligations.PlacementCountsRefusals := by
  intro s p m rest e htakes haccepts tb cells hasRoom fromTests fromStore ofFlow
  have hroom : storeHasRoom s.store m.payload.length = true ↔ hasRoom := storeHasRoom_iff
  have hnoroom : ¬ hasRoom → storeHasRoom s.store m.payload.length = false := fun h =>
    Bool.eq_false_iff.mpr (mt hroom.mp h)
  obtain ⟨t, hexec, ht, hfound, hrequests, hunplaced, hst, hlanes⟩ := take_of_accepts htakes haccepts
  have htests : allTestNotices m s = (List.finRange 16).flatMap fromTests := allTestNotices_eq m s
  refine ⟨t, placedEntry p m e s, hexec, ht, hfound, fun hnone => ⟨?_, ?_⟩, fun hsome => ⟨?_, fun hfull => ?_⟩,
    fun hquiet => ?_, fun hsome hfull => ?_, fun l => ?_⟩
  · rw [hst, place_of_none ((passingLanes_eq_nil).mpr hnone)]
    rfl
  · rw [hunplaced, if_pos ((passingLanes_eq_nil).mpr hnone)]
  · rw [hunplaced, if_neg ((passingLanes_ne_nil).mpr hsome)]
  · rw [hst, place_of_full ((passingLanes_ne_nil).mpr hsome) (hnoroom hfull)]
  · have hno : ¬ (passingLanes m s ≠ [] ∧ storeHasRoom s.store m.payload.length = false) := by
      rintro ⟨hne, hfalse⟩
      rcases hquiet with hnone | hr
      · exact hne ((passingLanes_eq_nil).mpr hnone)
      · rw [hroom.mpr hr] at hfalse
        cases hfalse
    rw [hrequests, placeNotices, if_neg hno, List.append_nil, htests]
  · rw [hrequests, placeNotices, if_pos ⟨(passingLanes_ne_nil).mpr hsome, hnoroom hfull⟩, htests, storeRefusals_eq]
    simp only [List.append_assoc]
    rfl
  · have hlane := (hlanes l).trans (laneOf_place m p s l)
    have hnot : (¬ passes tb m (laneOf s l)) → laneOf t l = testedLane m s.time.tb (laneOf s l) := fun hn => by
      rw [hlane, if_neg (mt (mem_passingLanes_iff).mp hn)]
    refine ⟨fun hc => ?_, fun hc h => ?_, fun hc h => ?_, fun hc h => ?_, fun hc h => ?_, fun h hr => ?_, fun h hr => ?_⟩
    · rw [hnot fun hp => hc hp.1, testedLane_of_not_candidate hc]
    · rw [hnot fun hp => hp.2.1 h, testedLane_of_test hc (testLane_late h)]
      simp [lacksRoom, countTest]
    · rw [hnot fun hp => hp.2.2.1 h, testedLane_of_test hc (testLane_early h)]
      simp [lacksRoom, countTest]
    · rw [hnot fun hp => absurd hp.2.2.2.1 (Nat.not_lt.mpr h.2.2), testedLane_of_test hc (testLane_queueFull h)]
      simp [lacksRoom, countTest]
    · rw [hnot fun hp => absurd hp.2.2.2.2 (Nat.not_le.mpr h.2.2.2), testedLane_of_test hc (testLane_quota h)]
      simp [lacksRoom, countTest]
    · rw [hlane, if_pos ((mem_passingLanes_iff).mpr h), if_pos (hroom.mpr hr)]
      rfl
    · rw [hlane, if_pos ((mem_passingLanes_iff).mpr h), if_neg (by simp [hnoroom hr])]
      rfl

end Sys2Proof.Take
end


section
/-! The watch sweep, the tick (O16, O17) and the directives of the flow table (O29, O30, O31). -/

namespace Sys2Proof.FlowTable

open Sys2Proof.Machine Sys2Proof.Safety Sys2Proof.Elementary

/-! ## The watch sweep (R35..R37) -/

/-- A path at a sweep, in the words of R36. -/
def sweptPath (e : FlowEntry) (x : Path) : Path :=
  if e.lapse ≠ 0 ∧ x.up = true then
    { up := decide (min (x.silence.toNat + 1) 255 < e.lapse.toNat), silence := BitVec.ofNat 8 (min (x.silence.toNat + 1) 255) }
  else x

theorem sweptPath_eq {e : FlowEntry} (h : e.lapse ≠ 0) (x : Path) : sweptPath e x = sweepPath e.lapse x := by
  unfold sweptPath sweepPath
  by_cases hup : x.up = true
  · rw [if_pos ⟨h, hup⟩, if_pos hup]
  · rw [if_neg fun hc => hup hc.2, if_neg hup]

/-- A LIVE entry all of whose paths are DOWN after the sweep (R36). -/
def fallsSilent (e : FlowEntry) : Bool :=
  decide (e.state = .live) && decide (e.lapse ≠ 0) && !(sweptPath e e.paths.a).up && !(sweptPath e e.paths.b).up

/-- The notices of an entry's sweep (R36, R37). -/
def sweepNotices (e : FlowEntry) : List Notice :=
  if fallsSilent e then [.flowSilent e.flow]
  else if e.state = .live ∧ e.ports = .both ∧ e.paths.a.up = true ∧ (sweptPath e e.paths.a).up = false then [.pathDown e.flow .a]
  else if e.state = .live ∧ e.ports = .both ∧ e.paths.b.up = true ∧ (sweptPath e e.paths.b).up = false then [.pathDown e.flow .b]
  else []

/-- An entry after the sweep (R36). -/
def sweptEntry (e : FlowEntry) : FlowEntry :=
  { e with
    paths := { a := sweptPath e e.paths.a, b := sweptPath e e.paths.b }
    state := if fallsSilent e then .silent else e.state }

theorem sweepEntry_eq (e : FlowEntry) : sweepEntry e = (sweptEntry e, sweepNotices e) := by
  by_cases hlapse : e.lapse = 0
  · have hpath (x : Path) : sweptPath e x = x := if_neg fun h => h.1 hlapse
    have hsilent : fallsSilent e = false := by simp [fallsSilent, hlapse]
    have hnone (x : Path) : ¬ (x.up = true ∧ x.up = false) := by simp
    rw [sweepEntry, if_pos hlapse]
    simp [sweptEntry, sweepNotices, hpath, hsilent]
  · rw [sweepEntry, if_neg hlapse]
    cases hs : e.state with
    | armed => simp [sweptEntry, sweepNotices, fallsSilent, sweptPath_eq hlapse, hs]
    | silent => simp [sweptEntry, sweepNotices, fallsSilent, sweptPath_eq hlapse, hs]
    | live =>
      by_cases hdown : (sweepPath e.lapse e.paths.a).up = false ∧ (sweepPath e.lapse e.paths.b).up = false
      · obtain ⟨ha, hb⟩ := hdown
        have hdown' : fallsSilent e = true := by
          rw [fallsSilent, sweptPath_eq hlapse, sweptPath_eq hlapse, hs, ha, hb, decide_eq_true hlapse]
          rfl
        simp [sweptEntry, sweepNotices, hdown', sweptPath_eq hlapse, ha, hb]
      · have hup : fallsSilent e = false := by
          simp only [fallsSilent, sweptPath_eq hlapse]
          cases ha : (sweepPath e.lapse e.paths.a).up <;> cases hb : (sweepPath e.lapse e.paths.b).up <;>
            simp [ha, hb] at hdown ⊢
        simp only [if_neg hdown, sweptEntry, sweepNotices, hup, sweptPath_eq hlapse, hs, true_and, Bool.false_eq_true, if_false]
        split
        · rfl
        · split <;> rfl

/-- Settles O16: the sweep of the table is `sweepEntry` on each entry. -/
theorem watchSweepLapsesPaths : Obligations.WatchSweepLapsesPaths := by
  intro s hdue path silent entry notices
  have hne : s.classifier.sweepsDue ≠ 0 := by omega
  refine congrArg Host.Outcome.next ?_
  rw [watchSweep, if_neg hne, sweepTable]
  simp only [sweepEntry_eq]
  rfl

/-! ## The tick (R35, R63, R88) -/

/-- Settles O17: `tick` is its own description; the frame in transmission ages in every lane. -/
theorem tickCounts : Obligations.TickCounts := by
  intro s
  refine ⟨tick s, rfl, ?_, fun l => ?_⟩
  · have hsweeps : (if s.classifier.sweepTimer = 0xFFFF then s.classifier.sweepsDue + 1 else s.classifier.sweepsDue) =
        s.classifier.sweepsDue + if s.classifier.sweepTimer = 65535 then 1 else 0 := by
      split <;> rfl
    rw [← hsweeps]
    rfl
  · simp only [tick, laneOf, mapLanes, Fin.getElem_fin, Vector.getElem_ofFn]
    rfl

/-! ## The directives of the flow table -/

theorem formFlow_ok {f : Word} (h0 : f ≠ 0) (h1 : f ≠ 0xFFFF) : formFlow [f] = .ok f := by
  rw [formFlow, inRange, flowValid, if_pos (decide_eq_true ⟨h0, h1⟩)]

section Find

variable {f : Word} {s : State} {e : FlowEntry}

theorem ownFlowClear_absent (h : findFlow f s.classifier.table = none) : ownFlowClear f s = refuse .noEntry s := by
  rw [ownFlowClear, h]

theorem ownFlowClear_found (h : findFlow f s.classifier.table ≠ none) :
    ownFlowClear f s = done (setTable (s.classifier.table.filter fun y => decide (y.flow ≠ f)) s) := by
  have hfilter : (s.classifier.table.filter fun y => y.flow != f) = s.classifier.table.filter fun y => decide (y.flow ≠ f) :=
    List.filter_congr fun y _ => by rw [decide_not]; rfl
  unfold ownFlowClear
  split
  · rw [hfilter]
  · next hnone => exact absurd hnone h

theorem ownFlowZero_absent (h : findFlow f s.classifier.table = none) : ownFlowZero f s = refuse .noEntry s := by
  rw [ownFlowZero, h]

theorem ownFlowZero_found (h : findFlow f s.classifier.table = some e) :
    ownFlowZero f s = done (setTable (replaceFlow { e with counters := zeroFlowCounters, gapFlag := false } s.classifier.table) s) := by
  rw [ownFlowZero, h]

theorem ownFlowRead_absent (h : findFlow f s.classifier.table = none) (room : Nat) :
    ownFlowRead f room s = refuse .noEntry s := by
  rw [ownFlowRead, h]

theorem ownFlowRead_found (h : findFlow f s.classifier.table = some e) (room : Nat) :
    ownFlowRead f room s = readOut room (flowWords e) s := by
  rw [ownFlowRead, h]

/-- An entry of the table replaced, in the words of the statements. -/
theorem replaceFlow_found (h : findFlow f s.classifier.table = some e) {x : FlowEntry} (hx : x.flow = e.flow) :
    replaceFlow x s.classifier.table = s.classifier.table.map fun y => if y.flow = f then x else y := by
  rw [replaceFlow, hx, flow_of_findFlow h]

end Find

/-- Settles O31: the owner's two cases of each directive, behind a form that passes. -/
theorem flowClearAndZero : Obligations.FlowClearAndZero := by
  intro s f h0 h1
  have hform := formFlow_ok h0 h1
  refine ⟨fun hissue => ?_, fun hissue => ?_⟩
  · have hanswer {a : Answer} (ha : ownFlowClear f s = a) :
        exec (.flowClear [f]) s = .next (answered .flowClear a.status a.results a.state) :=
      Transport.next_issueDirective_of_serve hissue (by rw [serveFlowClear, hform]; exact ha)
    exact ⟨fun h => hanswer (ownFlowClear_absent h), fun h => hanswer (ownFlowClear_found h)⟩
  · have hanswer {a : Answer} (ha : ownFlowZero f s = a) :
        exec (.flowZero [f]) s = .next (answered .flowZero a.status a.results a.state) :=
      Transport.next_issueDirective_of_serve hissue (by rw [serveFlowZero, hform]; exact ha)
    refine ⟨fun h => hanswer (ownFlowZero_absent h), fun e h => ?_⟩
    rw [hanswer (ownFlowZero_found h), replaceFlow_found h (by exact rfl)]
    rfl

/-! ## FLOW_READ and FLOW_LIST (R43, R44) -/

/-- The words of FLOW_READ, in the words of the statements. -/
theorem flowWords_eq (e : FlowEntry) :
    let path (p : PortId) : Word :=
      if inSet e.ports p then
        BitVec.ofNat 16 (32768 + (if (perPort e.paths p).up then 16384 else 0) + (perPort e.paths p).silence.toNat)
      else 0
    let k := e.counters
    flowWords e =
      [e.flow,
        BitVec.ofNat 16
          (flowStateCode e.state * 16384 + portSetCode e.ports * 4096 + (if e.gapFlag then 2048 else 0) +
            (if e.high = none then 0 else 1024) + e.staleRun),
        BitVec.ofNat 16 e.lapse.toNat, path .a, path .b, e.high.getD 0] ++
      twoWords e.window ++ twoWords k.accepted ++ twoWords k.duplicates ++ twoWords k.stale ++ twoWords k.gaps ++
      twoWords k.recovered ++ twoWords k.resyncs ++ twoWords k.wrongPort ++ twoWords k.unplaced := by
  have hbit (b : Bool) (n : Nat) : b.toNat * n = if b then n else 0 := by cases b <;> simp
  have hhigh : (if e.high.isSome = true then 1024 else 0) = if e.high = none then 0 else 1024 := by cases e.high <;> simp
  have hpath (p : PortId) : pathWord e.ports p (perPort e.paths p) =
      if inSet e.ports p then
        BitVec.ofNat 16 (32768 + (if (perPort e.paths p).up then 16384 else 0) + (perPort e.paths p).silence.toNat)
      else 0 := by
    rw [pathWord, hbit, word]
  have ha := hpath .a
  have hb := hpath .b
  simp only [perPort] at ha hb
  simp only [flowWords, hbit, hhigh, word, ha, hb, BitVec.ofNat_toNat, perPort, List.flatMap_cons, List.flatMap_nil,
    List.append_nil, List.append_assoc]

theorem formFlowList_ok {start m : Word} (h1 : 1 ≤ m.toNat) (h2 : m.toNat ≤ 64) :
    formFlowList [start, m] = .ok (start, m.toNat) := by
  rw [formFlowList, inRange, if_pos (decide_eq_true ⟨h1, h2⟩)]

/-- The identifiers listed, in the words of the statements (R44). -/
theorem listedFlows_eq (start : Word) (count : Nat) (t : List FlowEntry) :
    listedFlows start count t =
      ((t.map fun e => e.flow).filter fun f => decide (start.toNat ≤ f.toNat)).take count := by
  rw [listedFlows, List.filter_map]
  rfl

/-- A read that fits its room or does not. -/
theorem answers_of_read {d : Directive} {s : State} {i : Instr} {ws : List Word}
    (h : ∀ a, readOut (roomFor s) ws s = a → exec i s = .next (answered d a.status a.results a.state)) :
    (ws.length ≤ roomFor s → exec i s = .next (answered d .ok ws s)) ∧
      (roomFor s < ws.length → exec i s = .next (answered d .noRoom [] s)) :=
  ⟨fun hfits => h _ (readOut_of_le hfits), fun hlong => h _ (readOut_of_lt hlong)⟩

/-- FLOW_READ past its form stage. -/
theorem exec_flowRead {f : Word} {s : State} (h0 : f ≠ 0) (h1 : f ≠ 0xFFFF) (hissue : mayIssue .flowRead [f] s) {a : Answer}
    (ha : ownFlowRead f (roomFor s) s = a) :
    exec (.flowRead [f]) s = .next (answered .flowRead a.status a.results a.state) := by
  refine Transport.next_issueDirective_of_serve hissue ?_
  unfold serveFlowRead
  rw [formFlow_ok h0 h1]
  exact ha

/-- Settles O29: both are read-outs, of the entry's words and of the identifiers. -/
theorem flowReads : Obligations.FlowReads := by
  intro s
  refine ⟨fun f h0 h1 hissue => ⟨fun hnone => ?_, fun e he => ?_⟩, fun start m h1 h2 hissue => ?_⟩
  · exact exec_flowRead h0 h1 hissue (ownFlowRead_absent hnone _)
  · obtain rfl := flow_of_findFlow he
    intro path k words
    have hwords : flowWords e = words := flowWords_eq e
    have hlen : words.length = 24 := rfl
    have hread := answers_of_read (d := .flowRead) (i := .flowRead [e.flow]) (ws := words) fun a ha =>
      exec_flowRead h0 h1 hissue (by rw [ownFlowRead_found he, hwords]; exact ha)
    rw [hlen] at hread
    exact ⟨hlen, hread⟩
  · intro ids words
    refine answers_of_read fun a ha => Transport.next_issueDirective_of_serve hissue ?_
    unfold serveFlowList
    rw [formFlowList_ok h1 h2, afterForm_ok, listedFlows_eq]
    exact ha

/-! ## FLOW_SET (R39, R40) -/

theorem formFlowSet_ok {f w lapse : Word} {ports : PortSet} (h0 : f ≠ 0) (h1 : f ≠ 0xFFFF) (hl : lapse.toNat ≤ 255)
    (hw : (ports, w) ∈ [(PortSet.a, (1 : Word)), (.b, 2), (.both, 3)]) :
    formFlowSet [f, w, lapse] = .ok { flow := f, ports := ports, lapse := lapse.setWidth 8 } := by
  have hports : portSetParam w = .ok ports := by
    simp only [List.mem_cons, List.not_mem_nil, or_false, Prod.mk.injEq] at hw
    rcases hw with ⟨rfl, rfl⟩ | ⟨rfl, rfl⟩ | ⟨rfl, rfl⟩ <;> rfl
  have hgood : (flowValid f && decide (lapse.toNat ≤ 255)) = true := by
    rw [flowValid, decide_eq_true ⟨h0, h1⟩, decide_eq_true hl]
    rfl
  rw [formFlowSet, hports]
  simp only [inRange, hgood, if_true]
  rw [BitVec.setWidth_eq_extractLsb' (by decide)]

section Set

variable {a : FlowSetArgs} {s : State}

theorem ownFlowSet_found {e : FlowEntry} (h : findFlow a.flow s.classifier.table = some e) :
    ownFlowSet a s = done (setTable (replaceFlow (changeFlow a e) s.classifier.table) s) := by
  rw [ownFlowSet, h]

theorem ownFlowSet_inserted (h : findFlow a.flow s.classifier.table = none) (room : s.classifier.table.length < 64) :
    ownFlowSet a s = done (setTable (insertFlow (newFlow a) s.classifier.table) s) := by
  rw [ownFlowSet, h]
  exact if_pos room

theorem ownFlowSet_full (h : findFlow a.flow s.classifier.table = none) (full : 64 ≤ s.classifier.table.length) :
    ownFlowSet a s = refuse .tableFull s := by
  rw [ownFlowSet, h]
  exact if_neg (Nat.not_lt.mpr full)

end Set

/-- Settles O30: FLOW_SET's cases are an entry that exists, a new one in its place, and a full table. -/
theorem flowSetCreatesOrChanges : Obligations.FlowSetCreatesOrChanges := by
  intro s f w lapse ports h0 h1 hl hw hissue withTable
  have hanswer {a : Answer} (ha : ownFlowSet { flow := f, ports := ports, lapse := lapse.setWidth 8 } s = a) :
      exec (.flowSet [f, w, lapse]) s = .next (answered .flowSet a.status a.results a.state) := by
    refine Transport.next_issueDirective_of_serve hissue ?_
    unfold serveFlowSet
    rw [formFlowSet_ok h0 h1 hl hw]
    exact ha
  refine ⟨fun e he => ?_, fun hnone hroom => ?_, fun hnone hmany => hanswer (ownFlowSet_full hnone hmany)⟩
  · intro path
    rw [hanswer (ownFlowSet_found he), replaceFlow_found he (by exact rfl)]
    simp only [changeFlow, keptPath, Bool.and_eq_true]
    rfl
  · obtain ⟨before, behind, hold, hnew, hbefore, hbehind⟩ :=
      insertFlow_inserted (newFlow { flow := f, ports := ports, lapse := lapse.setWidth 8 }) s.classifier.table
    refine ⟨before, behind, hold, hbefore, hbehind, ?_⟩
    rw [hanswer (ownFlowSet_inserted hnone hroom), hnew, List.append_assoc]
    rfl

end Sys2Proof.FlowTable
end


section
/-! The lane directives (O32, O33, O35): settings, reads and HALT. -/

namespace Sys2Proof.LaneDirectives

open Sys2Proof.Machine Sys2Proof.Safety Sys2Proof.Elementary

/-! ## The forms -/

theorem formLane_ok {lane : Word} {l : LaneId} (h : lane.toNat = l.val) : formLane [lane] = .ok l := laneParam_of_eq h

theorem formLaneSet_ok {lane : Word} {l : LaneId} (h : lane.toNat = l.val)
    {source cnh cnl cd dh dl oh ol quota w fillWord fillLength : Word}
    (valid : configValid
      { source := source, cn := cnh ++ cnl, cd := cd, delay := dh ++ dl, offset := oh ++ ol, quota := quota, divisor := w,
        fillWord := fillWord, fillLength := fillLength } = true) :
    formLaneSet [lane, source, cnh, cnl, cd, dh, dl, oh, ol, quota, w, fillWord, fillLength] =
      .ok (l,
        { source := source, cn := cnh ++ cnl, cd := cd, delay := dh ++ dl, offset := oh ++ ol, quota := quota, divisor := w,
          fillWord := fillWord, fillLength := fillLength }) := by
  simp only [formLaneSet, laneParam_of_eq h]
  exact if_pos valid

theorem formLaneSource_ok {lane f cut : Word} {l : LaneId} (h : lane.toNat = l.val) (hf : f ≠ 0xFFFF) (hcut : cut.toNat ≤ 1) :
    formLaneSource [lane, f, cut] = .ok { lane := l, flow := f, cut := decide (cut = 1) } := by
  simp only [formLaneSource, laneParam_of_eq h]
  exact if_pos (decide_eq_true ⟨hf, hcut⟩)

theorem formLanePeek_ok {lane start m : Word} {l : LaneId} (h : lane.toNat = l.val) (hstart : start.toNat ≤ 63)
    (hm : 1 ≤ m.toNat) (hm' : m.toNat ≤ 64) :
    formLanePeek [lane, start, m] = .ok { lane := l, start := start.toNat, count := m.toNat } := by
  simp only [formLanePeek, laneParam_of_eq h]
  exact if_pos (decide_eq_true ⟨hstart, hm, hm'⟩)

/-! ## LANE_SET, LANE_SOURCE and LANE_ZERO (R76, R92, R94) -/

section Source

variable {a : LaneSourceArgs} {x : Lane}

theorem switchSource_keep (h : a.cut = false) : switchSource a x = ({ x with config := { x.config with source := a.flow } }, []) := by
  simp [switchSource, h]

/-- A cut removes the old source's entries (R92). -/
theorem switchSource_cut (h : a.cut = true) :
    switchSource a x =
      ({ x with
          config := { x.config with source := a.flow }
          queue := x.queue.filter fun e => decide (e.flow ≠ x.config.source)
          counters :=
            { x.counters with
              flushed := satAdd x.counters.flushed (x.queue.filter fun e => decide (e.flow = x.config.source)).length } },
        releasesOf (x.queue.filter fun e => decide (e.flow = x.config.source))) := by
  have hout : (x.queue.filter fun e => e.flow != x.config.source) = x.queue.filter fun e => decide (e.flow ≠ x.config.source) :=
    List.filter_congr fun e _ => by rw [decide_not]; rfl
  have hin : (x.queue.filter fun e => e.flow == x.config.source) = x.queue.filter fun e => decide (e.flow = x.config.source) :=
    List.filter_congr fun e _ => rfl
  rw [switchSource, hout, hin]
  simp only [h, if_true]

end Source

/-- Settles O32: each setting is one change of its lane, with the releases of a cut. -/
theorem laneSettings : Obligations.LaneSettings := by
  intro s l lane hl x withLane
  refine ⟨?_, fun f hf => ?_, fun hissue => ?_⟩
  · intro source cnh cnl cd dh dl oh ol quota w fillWord fillLength ps cn d o h1 h2 h3 h4 h5 h6 h7 h8 h9 h10 h11 h12 hissue
    have hanswer {a : Answer} (ha : ownLaneSet l
        { source := source, cn := cn, cd := cd, delay := d, offset := o, quota := quota, divisor := w, fillWord := fillWord,
          fillLength := fillLength } s = a) :
        exec (.laneSet ps) s = .next (answered .laneSet a.status a.results a.state) := by
      refine Transport.next_issueDirective_of_serve hissue ?_
      unfold serveLaneSet
      rw [formLaneSet_ok hl (decide_eq_true ⟨h1, h2, h3, h4, h5, h6, h7, h8, h9, h10, h11, h12⟩)]
      exact ha
    exact ⟨fun hidle => hanswer (if_pos hidle), fun hbusy => hanswer (if_neg hbusy)⟩
  · intro config removed
    have hanswer {cut : Word} (hcut : cut.toNat ≤ 1) (hissue : mayIssue .laneSource [lane, f, cut] s) {a : Answer}
        (ha : ownLaneSource { lane := l, flow := f, cut := decide (cut = 1) } s = a) :
        exec (.laneSource [lane, f, cut]) s = .next (answered .laneSource a.status a.results a.state) := by
      refine Transport.next_issueDirective_of_serve hissue ?_
      unfold serveLaneSource
      rw [formLaneSource_ok hl hf hcut]
      exact ha
    refine ⟨fun hissue => ?_, fun hissue => ?_⟩
    · rw [hanswer (by decide) hissue (congrArg (fun r => done (updateLane l r s)) (switchSource_keep rfl))]
      rfl
    · rw [hanswer (by decide) hissue (congrArg (fun r => done (updateLane l r s)) (switchSource_cut rfl))]
      simp only [updateLane, applyEffects_releasesOf]
      rfl
  · refine Transport.next_issueDirective_of_serve (a := done (setLane l (zeroLane x) s)) hissue ?_
    unfold serveLaneZero
    rw [formLane_ok hl]
    rfl

/-! ## LANE_READ and LANE_PEEK (R95, R96) -/

theorem lane_eq_word {lane : Word} {l : LaneId} (h : lane.toNat = l.val) : word l.val = lane := by
  rw [word, ← h, BitVec.ofNat_toNat, BitVec.setWidth_eq]

theorem bool_toNat_mul (b : Bool) (n : Nat) : b.toNat * n = if b then n else 0 := by cases b <;> simp

/-- The unit's words, in the words of the statements (R95 words 17 to 21). -/
theorem heldWords_eq (s : State) (x : Lane) :
    heldWords s x =
      match x.held with
      | none => [0, 0, 0, 0, 0]
      | some e =>
        [BitVec.ofNat 16 ((if x.state = .parked then 32768 else 16384) + (blockPayload s.store e.block).length), e.flow, e.seq] ++
          twoWords e.pts := by
  have hstate : (if x.state = .parked then 2 else 1) * 16384 = if x.state = .parked then 32768 else 16384 := by
    split <;> rfl
  unfold heldWords heldLength
  cases x.held with
  | none => rfl
  | some e =>
    simp only [hstate]
    rfl

/-- An entry's six words, in the words of the statements (R96). -/
theorem entryPeek_eq (s : State) (e : Entry) :
    entryPeek s e =
      [e.flow, e.seq] ++ twoWords e.release ++
        [BitVec.ofNat 16
            ((if e.marker then 32768 else 0) + (if e.disc then 16384 else 0) + (if e.port = .b then 256 else 0) + e.cells),
          BitVec.ofNat 16 (blockPayload s.store e.block).length] := by
  have hport : portCode e.port * 256 = if e.port = .b then 256 else 0 := by cases e.port <;> rfl
  rw [entryPeek, bool_toNat_mul, bool_toNat_mul, hport]
  rfl

theorem flatMap_length_const {α β : Type} {f : α → List β} {k : Nat} (h : ∀ a, (f a).length = k) (as : List α) :
    (as.flatMap f).length = k * as.length := by
  rw [List.length_flatMap, List.map_congr_left (g := fun _ => k) fun a _ => h a]
  simp [Nat.mul_comm]

/-- Settles O33: both are read-outs, of the lane's words and of the entries shown. -/
theorem laneReads : Obligations.LaneReads := by
  intro s l lane hl x k c payloadLength
  refine ⟨fun hissue => ?_, fun start m hstart hm hm' hissue => ?_⟩
  · intro words
    have hwords : laneWords s l = words := by
      have hframe : x.frame.isSome.toNat * 128 = if x.frame = none then 0 else 128 := by cases x.frame <;> simp
      have hflag (b : Bool) : b.toNat = if b then 1 else 0 := by cases b <;> rfl
      have hhead : word (laneStateCode x.state * 4096 + x.commands.length * 256 + x.frame.isSome.toNat * 128 +
          x.underrun.toNat * 4 + x.refused.toNat * 2 + x.overrun.toNat) =
          BitVec.ofNat 16
            (laneStateCode x.state * 4096 + x.commands.length * 256 + (if x.frame = none then 0 else 128) +
              (if x.underrun then 4 else 0) + (if x.refused then 2 else 0) + if x.overrun then 1 else 0) := by
        rw [hframe, bool_toNat_mul, bool_toNat_mul, hflag x.overrun, word]
      have hheld := heldWords_eq s x
      simp only [laneWords, lane_eq_word hl]
      show [lane, _, _, _] ++ _ ++ _ ++ _ ++ _ ++ _ ++ heldWords s x ++ _ ++ _ ++ _ ++ _ = _
      rw [hheld]
      simp only [words, ← hhead, List.flatMap_cons, List.flatMap_nil, List.append_nil, List.append_assoc]
      rfl
    have hlen : words.length = 49 := by
      simp only [words, List.length_append, List.length_cons, List.length_nil, twoWords]
      cases x.held <;> rfl
    have hread := FlowTable.answers_of_read (d := .laneRead) (i := .laneRead [lane]) (ws := words) fun a ha =>
      Transport.next_issueDirective_of_serve hissue (by
        unfold serveLaneRead
        rw [formLane_ok hl, afterForm_ok, hwords]
        exact ha)
    rw [hlen] at hread
    exact ⟨hlen, hread⟩
  · intro shown words
    refine ⟨by simp [shown], by exact flatMap_length_const (k := 6) (fun e => rfl) shown, FlowTable.answers_of_read fun a ha => ?_⟩
    refine Transport.next_issueDirective_of_serve hissue ?_
    unfold serveLanePeek
    rw [formLanePeek_ok hl hstart hm hm', afterForm_ok, peekWords]
    simp only [funext (entryPeek_eq s)]
    exact ha

/-! ## HALT (R104) -/

/-- Settles O35: `haltLane` is idle or empties the lane and releases what it held. -/
theorem haltEmptiesLane : Obligations.HaltEmptiesLane := by
  intro s l lane hl hissue x
  have hanswer {a : Answer} (ha : ownHalt l s = a) :
      exec (.halt [lane]) s = .next (answered .halt a.status a.results a.state) := by
    refine Transport.next_issueDirective_of_serve hissue ?_
    unfold serveHalt
    rw [formLane_ok hl]
    exact ha
  refine ⟨fun hidle => ?_, fun hactive => ?_⟩
  · have hhalt : haltLane l x = (x, []) := if_pos hidle
    have hsame : updateLane l (x, []) s = s := setLane_laneOf l s
    rw [hanswer (a := done s) (by rw [ownHalt, hhalt, hsame])]
    rfl
  · have hhalt : haltLane l x = (emptied x, releasesOf (x.queue ++ x.held.toList) ++ stateNotice l x.state .idle) := by
      rw [haltLane, if_neg hactive]
      simp [releasesOf]
    rw [hanswer (a := done _) (by rw [ownHalt, hhalt]), done_status, done_results, done_state,
      Transport.updateLane_releases_then_notice hactive]
    rfl

end Sys2Proof.LaneDirectives
end


section
/-! The directives of the time base and of the scheduled list (O37..O41). -/

namespace Sys2Proof.ScheduledList

open Sys2Proof.Machine Sys2Proof.Safety Sys2Proof.Elementary Sys2Proof.Forms

/-! ## TIME_SET (R67, R71, R173) -/

theorem allIdle_iff {s : State} : allIdle s = true ↔ ∀ l, (laneOf s l).state = .idle := by
  simp [allIdle, List.all_eq_true]

/-- Settles O37: TIME_SET's two cases are all lanes IDLE, and one that is not. -/
theorem timeSetFlushesList : Obligations.TimeSetFlushesList := by
  intro s high low hissue
  have hanswer {a : Answer} (ha : ownTimeSet (high ++ low) s = a) :
      exec (.timeSet [high, low]) s = .next (answered .timeSet a.status a.results a.state) :=
    Transport.next_issueDirective_of_serve hissue ha
  refine ⟨fun ⟨l, hl⟩ => hanswer (if_neg fun hidle => hl ((allIdle_iff).mp hidle l)), fun hidle => ?_⟩
  rw [hanswer (if_pos ((allIdle_iff).mpr hidle))]
  simp only [done, request, setRequests, flushSdl, setScheduler, setTime, List.append_assoc]
  rfl

/-! ## TIME_ADJUST (R68..R70) -/

theorem guardRefuses_iff {delta : Tick} {s : State} :
    guardRefuses delta s = true ↔
      delta.toInt < 0 ∧
        ∃ e ∈ s.scheduler.list, ¬ atOrBefore e.due s.time.tb ∧ 2 ^ 31 ≤ distance (s.time.tb + delta) e.due := by
  simp [guardRefuses, BitVec.msb_eq_toInt, List.any_eq_true]

theorem formTimeAdjust_ok {high low : Word} (h1 : (high ++ low : Tick).toInt ≤ 16777215)
    (h2 : -16777216 ≤ (high ++ low : Tick).toInt) : formTimeAdjust [high, low] = .ok (high ++ low) :=
  if_pos (decide_eq_true ⟨h2, h1⟩)

theorem expiry_of_free {s : State} (h : s.scheduler.service = none) : expiry s = lookAtHead s := by
  rw [expiry, h]

theorem lookAtHead_of_inService {s : State} (h : s.scheduler.service ≠ none) : lookAtHead s = s :=
  expireDue_of_busy (by simp [mayExpire, listBusy, inService, Option.isSome_iff_ne_none, h]) _

/-- The part after an accepted TIME_ADJUST (R69, R70). -/
def adjustedState (delta : Tick) (s : State) : State :=
  sendOverdue
    (request (.timeChanged s.time.tb (s.time.tb + delta) .adjust)
      (mapLanes (fun _ x => reanchor delta x) (setTime { s.time with tb := s.time.tb + delta } s)))

section Adjust

variable {delta : Tick} {s : State}

theorem ownTimeAdjust_unset (h : s.time.isSet = false) : ownTimeAdjust delta s = refuse .noTime s := if_pos h

theorem ownTimeAdjust_guarded (h : s.time.isSet = true) (guarded : guardRefuses delta s = true) :
    ownTimeAdjust delta s = refuse .tooFar s := by
  rw [ownTimeAdjust, if_neg (by simp [h]), if_pos guarded]

theorem withOverdue_accepted (h : s.time.isSet = true) (free : guardRefuses delta s = false) :
    withOverdue (ownTimeAdjust delta s) = done (adjustedState delta s) := by
  rw [ownTimeAdjust, if_neg (by simp [h]), if_neg (by simp [free])]
  rfl

end Adjust

/-- Settles O38: the adjust is refused, or guarded, or moves TB with the grids. -/
theorem timeAdjustMovesGrids : Obligations.TimeAdjustMovesGrids := by
  intro s high low hissue delta h1 h2 tooFar
  have hanswer {a : Answer} (ha : afterGuard (withOverdue (ownTimeAdjust delta s)) = a) :
      exec (.timeAdjust [high, low]) s = .next (answered .timeAdjust a.status a.results a.state) := by
    refine Transport.next_issueDirective_of_serve hissue ?_
    unfold serveTimeAdjust
    rw [formTimeAdjust_ok h1 h2]
    exact ha
  refine ⟨fun hunset => ?_, fun hset hfar => ?_, fun hset hnear => ?_⟩
  · exact hanswer (a := refuse .noTime s) (by rw [ownTimeAdjust_unset hunset]; rfl)
  · refine ⟨lookAtHead s, ?_, ?_⟩
    · split
      · next hfree => exact congrArg _ (expiry_of_free hfree)
      · next hbusy => exact lookAtHead_of_inService hbusy
    · exact hanswer (a := refuse .tooFar (lookAtHead s))
        (by rw [ownTimeAdjust_guarded hset ((guardRefuses_iff).mpr hfar)]; rfl)
  · have hfree : guardRefuses delta s = false := Bool.eq_false_iff.mpr (mt (guardRefuses_iff).mp hnear)
    refine ⟨adjustedState delta s, ?_, ?_, fun l => ?_⟩
    · exact hanswer (a := done (adjustedState delta s)) (by rw [withOverdue_accepted hset hfree]; rfl)
    · simp only [adjustedState, sendOverdue, request, setRequests, mapLanes, setTime, setScheduler]
    · show (Vector.ofFn fun k : LaneId => reanchor delta s.lanes[k])[l] = _
      simp only [Fin.getElem_fin, Vector.getElem_ofFn]
      rfl

/-! ## AT (R166..R168) -/

theorem listBusy_iff {s : State} : listBusy s = true ↔ s.scheduler.overdue ≠ 0 ∨ s.scheduler.service ≠ none := by
  simp [listBusy, listHeld, inService, Option.isSome_iff_ne_none]

theorem listBusy_eq_false {s : State} (h : s.scheduler.overdue = 0) (h' : s.scheduler.service = none) : listBusy s = false := by
  simp [listBusy, listHeld, inService, h, h']

/-- Past its form stage a directive the scheduler holds back waits (R68, R165). -/
theorem issueUnless_waits {α : Type} {waits : Bool} {form : List Word → Except Status α} {x : α} {d : Directive} {ps : List Word}
    {serve : List Word → Nat → State → Answer} {s : State} (h : waits = true) (hform : form ps = .ok x) :
    issueUnless waits form d ps serve s = s := by
  rw [issueUnless, h, hform]
  rfl

/-- A directive the scheduler does not hold back is issued. -/
theorem issueUnless_free {α : Type} {waits : Bool} {form : List Word → Except Status α} {d : Directive} {ps : List Word}
    {serve : List Word → Nat → State → Answer} {s : State} (h : waits = false) :
    issueUnless waits form d ps serve s = issueDirective d ps serve s := by
  rw [issueUnless, h]
  rfl

/-- A form failure is answered though the scheduler holds back (R140). -/
theorem issueUnless_badForm {α : Type} {waits : Bool} {form : List Word → Except Status α} {st : Status} {d : Directive}
    {ps : List Word} {serve : List Word → Nat → State → Answer} {s : State} (hform : form ps = .error st) :
    issueUnless waits form d ps serve s = issueDirective d ps serve s := by
  rw [issueUnless, hform]
  simp [formFailure]

/-- R166's checks 4 to 8, of the directive the embedded envelope names. -/
def failureOfNamed (a : AtArgs) (s : State) : Option Directive → Option Status
  | none => some .notSchedulable
  | some d =>
    if schedulable d = false then some .notSchedulable
    else if envelopeCount a.envelope ≠ a.params.length then some .badParam
    else
      match embeddedFailure d a.params with
      | some st => some st
      | none => if 32 ≤ s.scheduler.list.length then some .sdlFull else none

section Checks

variable {a : AtArgs} {s : State} (set : s.time.isSet = true)
include set

theorem atFailure_past (h : distance s.time.tb a.due = 0 ∨ 2 ^ 31 ≤ distance s.time.tb a.due) : atFailure a s = some .past := by
  rw [atFailure, if_neg (by simp [set]), if_pos ((Transport.strictlyAfter_eq_false_iff).mpr h)]

theorem atFailure_tooFar (h : 2 ^ 30 < distance s.time.tb a.due) (h' : distance s.time.tb a.due < 2 ^ 31) :
    atFailure a s = some .tooFar := by
  have hahead : ¬ strictlyAfter a.due s.time.tb = false := by
    rw [Transport.strictlyAfter_eq_false_iff]
    omega
  rw [atFailure, if_neg (by simp [set]), if_neg hahead]
  exact if_pos h

variable (ahead : 1 ≤ distance s.time.tb a.due) (near : distance s.time.tb a.due ≤ 2 ^ 30)
include ahead near

/-- Past R166's check 3, the embedded directive decides. -/
theorem atFailure_inTime : atFailure a s = failureOfNamed a s (directiveOf (envelopeCode a.envelope)) := by
  have hahead : ¬ strictlyAfter a.due s.time.tb = false := by
    rw [Transport.strictlyAfter_eq_false_iff]
    omega
  have hnear : ¬ Config.horizon < distance s.time.tb a.due := Nat.not_lt.mpr near
  rw [atFailure, if_neg (by simp [set]), if_neg hahead, if_neg hnear]
  cases directiveOf (envelopeCode a.envelope) <;> rfl

theorem atFailure_notSchedulable (h : ∀ form ∈ schedulableForms, directiveCode form.1 ≠ envelopeCode a.envelope) :
    atFailure a s = some .notSchedulable := by
  rw [atFailure_inTime set ahead near]
  cases hd : directiveOf (envelopeCode a.envelope) with
  | none => rfl
  | some d =>
    have hcode : directiveCode d = envelopeCode a.envelope := by
      by_contra hne
      have hnone := directiveOf_eq_none (code := envelopeCode a.envelope) fun d' hd' => by
        have hsome := (congrArg directiveOf hd').symm.trans (directiveOf_directiveCode d')
        rw [hd] at hsome
        cases hsome
        exact hne hd'
      rw [hd] at hnone
      cases hnone
    have hnot : schedulable d = false := by
      by_contra hsched
      obtain ⟨form, hform, rfl⟩ := (mem_schedulableForms).mpr (by simpa using hsched)
      exact h form hform hcode
    exact if_pos hnot

variable {d : Directive} {k : Nat} {onLane : Bool} (form : (d, k, onLane) ∈ schedulableForms)
  (code : directiveCode d = envelopeCode a.envelope)
include form code

/-- Past R166's check 4. -/
theorem atFailure_of_form :
    atFailure a s =
      if envelopeCount a.envelope ≠ a.params.length then some .badParam
      else
        match stages k onLane (paramsInRange d a.params) a.params with
        | some st => some st
        | none => if 32 ≤ s.scheduler.list.length then some .sdlFull else none := by
  obtain ⟨hcount, hsched⟩ := countAndLane_of_mem form
  have hnames : directiveOf (envelopeCode a.envelope) = some d := by rw [← code, directiveOf_directiveCode]
  rw [atFailure_inTime set ahead near, hnames]
  simp only [failureOfNamed, hsched, Bool.true_eq_false, if_false, embeddedFailure_eq_formOf hsched, formOf_eq_stages hcount]

end Checks

theorem stages_badParam {count : Nat} {lane inRange : Bool} {ps : List Word} (h : ps.length ≠ count) :
    stages count lane inRange ps = some .badParam := if_pos h

theorem stages_badLane {count : Nat} {lane inRange : Bool} {ps : List Word} (h : ps.length = count)
    (hlane : ¬ (lane = true → (ps.getD 0 0).toNat ≤ 15)) : stages count lane inRange ps = some .badLane := by
  rw [stages, if_neg (not_not.mpr h)]
  refine if_pos ?_
  obtain ⟨hl, hbig⟩ := Classical.not_imp.mp hlane
  exact ⟨hl, by omega⟩

theorem stages_outOfRange {count : Nat} {lane : Bool} {ps : List Word} (h : ps.length = count)
    (hlane : lane = true → (ps.getD 0 0).toNat ≤ 15) : stages count lane false ps = some .badParam := by
  rw [stages, if_neg (not_not.mpr h), if_neg (by rintro ⟨hl, hbig⟩; have := hlane hl; omega)]
  rfl

theorem stages_pass {count : Nat} {lane : Bool} {ps : List Word} (h : ps.length = count)
    (hlane : lane = true → (ps.getD 0 0).toNat ≤ 15) : stages count lane true ps = none :=
  (stages_eq_none).mpr ⟨h, hlane, rfl⟩

theorem ownAt_of_failure {a : AtArgs} {s : State} {st : Status} (h : atFailure a s = some st) (room : Nat) :
    ownAt a room s = refuse st s := by
  rw [ownAt, h]

theorem ownAt_of_pass {a : AtArgs} {s : State} {d : Directive} (h : atFailure a s = none)
    (names : directiveOf (envelopeCode a.envelope) = some d) (room : Nat) :
    ownAt a room s =
      if room = 0 then refuse .noRoom s
      else { status := .scheduled, results := [nextSerialFor s], state := admitAt a d s } := by
  rw [ownAt, h, names]

/-- AT served while the scheduler does not hold it back. -/
theorem exec_schedAt {high low envelope : Word} {params : List Word} {s : State} (free : listBusy s = false)
    (hissue : mayIssue .schedAt (high :: low :: envelope :: params) s) {a : Answer}
    (ha : ownAt { due := high ++ low, envelope := envelope, params := params } (roomFor s) s = a) :
    exec (.schedAt (high :: low :: envelope :: params)) s = .next (answered .schedAt a.status a.results a.state) := by
  show Host.Outcome.next (issueUnless (listBusy s) formAt .schedAt _ serveAt s) = _
  rw [issueUnless_free free]
  exact Transport.next_issueDirective_of_serve hissue ha

/-- Settles O39: the first failing check of R166 is AT's answer. -/
theorem atRefused : Obligations.AtRefused := by
  intro s high low envelope params ps ahead inTime code count
  refine ⟨fun hbusy => ?_, fun hover hservice hissue => ?_⟩
  · exact congrArg _ (issueUnless_waits (form := formAt) ((listBusy_iff).mpr hbusy)
      (x := { due := high ++ low, envelope := envelope, params := params }) rfl)
  · have free := listBusy_eq_false hover hservice
    have hrefused {st : Status} (h : atFailure { due := high ++ low, envelope := envelope, params := params } s = some st) :
        exec (.schedAt ps) s = .next (answered .schedAt st [] s) :=
      exec_schedAt free hissue (ownAt_of_failure h _)
    refine ⟨fun hunset => hrefused (if_pos hunset), fun hset hpast => hrefused (atFailure_past hset hpast),
      fun hset hfar hnear => hrefused (atFailure_tooFar hset hfar hnear),
      fun ⟨hset, h1, h2⟩ hnone => hrefused (atFailure_notSchedulable hset h1 h2 hnone), ?_⟩
    intro d k onLane htime form hcode counted laneGood
    obtain ⟨hset, h1, h2⟩ := htime
    have hchecks := atFailure_of_form (a := { due := high ++ low, envelope := envelope, params := params }) hset h1 h2 form hcode
    have hnames : directiveOf (envelopeCode envelope) = some d := by
      rw [← directiveOf_directiveCode d]
      exact congrArg directiveOf hcode.symm
    have hcounted {α : Type} {x y : α} (h : counted) : (if envelopeCount envelope ≠ params.length then x else y) = y :=
      if_neg (not_not.mpr h.1)
    refine ⟨fun hbad => hrefused ?_, fun hgood hlane => hrefused ?_, fun hgood hlane hrange => hrefused ?_,
      fun hgood hlane hrange hfull => hrefused ?_, fun hgood hlane hrange hplace hroom => ?_⟩
    · rw [hchecks]
      by_cases hcount : envelopeCount envelope = params.length
      · rw [if_neg (not_not.mpr hcount), stages_badParam fun hk => hbad ⟨hcount, hk⟩]
      · exact if_pos hcount
    · rw [hchecks, hcounted hgood, stages_badLane hgood.2 hlane]
    · rw [hchecks, hcounted hgood, hrange, stages_outOfRange hgood.2 hlane]
    · rw [hchecks, hcounted hgood, hrange, stages_pass hgood.2 hlane]
      exact if_pos hfull
    · have hpass : atFailure { due := high ++ low, envelope := envelope, params := params } s = none := by
        rw [hchecks, hcounted hgood, hrange, stages_pass hgood.2 hlane]
        exact if_neg (Nat.not_le.mpr hplace)
      exact exec_schedAt free hissue ((ownAt_of_pass hpass hnames _).trans (if_pos hroom))

/-- An entry not yet due stands at its own distance (R168). -/
theorem dueDistance_of_after {tb due : Tick} (h : strictlyAfter due tb = true) : dueDistance tb due = distance tb due := by
  refine if_neg ?_
  rw [strictlyAfter_iff] at h
  have : (tb - due).toNat = 2 ^ 32 - (due - tb).toNat := by
    unfold distance at h
    bv_omega
  unfold atOrBefore distance at *
  rw [decide_eq_true_eq]
  omega

/-- Settles O40: an admissible AT inserts its entry behind those at most as far. -/
theorem atAdmitted : Obligations.AtAdmitted := by
  intro s high low envelope params d hover hservice hsdl hafter ps due hissue hset h1 h2 hcode hcount hadmissible hplace hroom
  obtain ⟨hlen, -, -, hserial, -⟩ := hsdl
  obtain ⟨⟨d, count, onLane⟩, hform, rfl, hparams, hlane, hrange⟩ := hadmissible
  have hnames : directiveOf (envelopeCode envelope) = some d := by
    rw [← directiveOf_directiveCode d]
    exact congrArg directiveOf hcode.symm
  have hpass : atFailure { due := due, envelope := envelope, params := params } s = none := by
    rw [atFailure_of_form (a := { due := due, envelope := envelope, params := params }) hset h1 h2 hform hcode, if_neg (not_not.mpr (show envelopeCount envelope = params.length from hcount)),
      show paramsInRange d params = true from hrange, stages_pass hparams hlane]
    exact if_neg (Nat.not_le.mpr hplace)
  obtain ⟨k, hnext, hbefore, hfree⟩ := nextSerialFor_spec hserial hlen
  obtain ⟨before, behind, hlist, hnew, hfront, hback⟩ := insertSdl_inserted s.time.tb
    { serial := nextSerialFor s, due := due, code := d, params := params } s.scheduler.list
  have hdue : dueDistance s.time.tb due = distance s.time.tb due :=
    dueDistance_of_after ((strictlyAfter_iff).mpr ⟨h1, by omega⟩)
  have hdistance : ∀ e ∈ s.scheduler.list, dueDistance s.time.tb e.due = distance s.time.tb e.due := fun e he =>
    dueDistance_of_after (hafter e he)
  refine ⟨k, before, behind, hbefore, hfree, hlist, fun e he => ?_, fun e he => ?_, ?_⟩
  · rw [← hdue, ← hdistance e (hlist ▸ List.mem_append_left _ he)]
    exact hfront e he
  · have hmem : e ∈ behind := List.mem_of_mem_head? (by simpa using he)
    rw [← hdue, ← hdistance e (hlist ▸ List.mem_append_right _ hmem)]
    exact hback e he
  · rw [exec_schedAt (listBusy_eq_false hover hservice) hissue ((ownAt_of_pass hpass hnames _).trans (if_neg (by omega)))]
    simp only [admitAt, setScheduler, hnew]
    simp only [hnext, serialAfter_candidateFrom, List.append_assoc]
    rfl

end Sys2Proof.ScheduledList
end


section
/-! SDL_CANCEL and SDL_READ (O41). -/

namespace Sys2Proof.ScheduledList

open Sys2Proof.Machine Sys2Proof.Safety Sys2Proof.Elementary Sys2Proof.Forms

section Cancel

variable {n : Word} {room : Nat} {s : State}

theorem ownCancel_absent (hn : n ≠ 0xFFFF) (h : ∀ e ∈ s.scheduler.list, e.serial ≠ n) :
    ownCancel n room s = refuse .noEntry s := by
  have hheld : serialHeld n s.scheduler.list = false :=
    Bool.eq_false_iff.mpr fun hh => by
      obtain ⟨e, he, heq⟩ := (serialHeld_iff).mp hh
      exact h e he heq
  rw [ownCancel, if_neg hn, if_pos hheld]

/-- An entry of the serial is found (R174). -/
theorem ownCancel_found (hn : n ≠ 0xFFFF) (h : ∃ e ∈ s.scheduler.list, e.serial = n) :
    ownCancel n room s =
      if room = 0 then refuse .noRoom s
      else
        { status := .ok, results := [1]
          state :=
            setScheduler
              { s.scheduler with list := s.scheduler.list.filter fun e => decide (e.serial ≠ n) } s } := by
  have hfilter : (s.scheduler.list.filter fun e => e.serial != n) = s.scheduler.list.filter fun e => decide (e.serial ≠ n) :=
    List.filter_congr fun e _ => by rw [decide_not]; rfl
  rw [ownCancel, if_neg hn, if_neg (by simp [(serialHeld_iff).mpr h]), hfilter]

end Cancel

/-- SDL_CANCEL with one parameter, the list free. -/
theorem exec_sdlCancel {n : Word} {s : State} (free : listBusy s = false) (hissue : mayIssue .sdlCancel [n] s) {a : Answer}
    (ha : ownCancel n (roomFor s) s = a) :
    exec (.sdlCancel [n]) s = .next (answered .sdlCancel a.status a.results a.state) := by
  show Host.Outcome.next (issueUnless (listBusy s) formOne .sdlCancel _ serveCancel s) = _
  rw [issueUnless_free free]
  exact Transport.next_issueDirective_of_serve hissue ha

theorem exec_sdlCancelAll (s : State) : exec .sdlCancelAll s = exec (.sdlCancel [0xFFFF]) s := rfl

theorem formSdlRead_ok {start m : Word} (h1 : start.toNat ≤ 31) (h2 : m ≠ 0) (h3 : m.toNat ≤ 32) :
    formSdlRead [start, m] = .ok (start.toNat, m.toNat) := by
  have hm : 1 ≤ m.toNat := by bv_omega
  exact if_pos (decide_eq_true ⟨h1, hm, h3⟩)

theorem formSdlRead_bad {ps : List Word} (h : ∀ start m : Word, ps = [start, m] → 31 < start.toNat ∨ m = 0 ∨ 32 < m.toNat) :
    formSdlRead ps = .error .badParam := by
  unfold formSdlRead
  split
  · next start m =>
    refine if_neg ?_
    rw [decide_eq_true_eq]
    rintro ⟨h1, h2, h3⟩
    rcases h start m rfl with h | rfl | h
    · omega
    · exact absurd h2 (by decide)
    · omega
  · rfl

/-- Settles O41: a wait, a form failure, and the owner's cases of each directive. -/
theorem sdlCancelAndRead : Obligations.SdlCancelAndRead := by
  intro s
  refine ⟨fun hbusy => ?_, fun hservice start m h1 h2 h3 => ?_, fun ps hlen hissue => ?_,
    fun n hn hover hservice hissue => ⟨fun habsent => ?_, fun hfound => ⟨fun hroom => ?_, fun hroom => ?_⟩⟩,
    fun hover hservice hissue i hi => ?_, fun ps hissue => ⟨fun hbad => ?_, ?_⟩⟩
  · have hcancel (n : Word) : exec (.sdlCancel [n]) s = .next s :=
      congrArg _ (issueUnless_waits (form := formOne) ((listBusy_iff).mpr hbusy) (x := n) rfl)
    exact ⟨hcancel 0xFFFF, hcancel⟩
  · have hbusy : inService s = true := Option.isSome_iff_ne_none.mpr hservice
    exact congrArg _ (issueUnless_waits (form := formSdlRead) hbusy (formSdlRead_ok h1 h2 h3))
  · have hform : formOne ps = .error .badParam := by
      unfold formOne
      split
      · exact absurd rfl hlen
      · rfl
    show Host.Outcome.next (issueUnless (listBusy s) formOne .sdlCancel ps serveCancel s) = _
    rw [issueUnless_badForm hform]
    exact Transport.next_issueDirective_of_serve (a := refuse .badParam s) hissue (by rw [serveCancel, hform, afterForm_error])
  · exact exec_sdlCancel (listBusy_eq_false hover hservice) hissue (ownCancel_absent hn habsent)
  · exact exec_sdlCancel (listBusy_eq_false hover hservice) hissue ((ownCancel_found hn hfound).trans (if_pos hroom))
  · exact exec_sdlCancel (listBusy_eq_false hover hservice) hissue ((ownCancel_found hn hfound).trans (if_neg (by omega)))
  · have hexec : exec i s = exec (.sdlCancel [0xFFFF]) s := by
      rcases List.mem_cons.mp hi with rfl | hi
      · exact exec_sdlCancelAll s
      · rw [List.mem_singleton.mp hi]
    have hall : ownCancel 0xFFFF (roomFor s) s =
        if roomFor s = 0 then refuse .noRoom s
        else
          { status := .ok, results := [word s.scheduler.list.length]
            state := setScheduler { s.scheduler with list := [] } s } := if_pos rfl
    rw [hexec]
    exact ⟨fun hroom => exec_sdlCancel (listBusy_eq_false hover hservice) hissue (hall.trans (if_pos hroom)),
      fun hroom => exec_sdlCancel (listBusy_eq_false hover hservice) hissue (hall.trans (if_neg (by omega)))⟩
  · show Host.Outcome.next (issueUnless (inService s) formSdlRead .sdlRead ps serveSdlRead s) = _
    rw [issueUnless_badForm (formSdlRead_bad hbad)]
    exact Transport.next_issueDirective_of_serve (a := refuse .badParam s) hissue
      (by rw [serveSdlRead, formSdlRead_bad hbad, afterForm_error])
  · rintro start m rfl h1 h2 h3 hservice shown words
    have hfree : inService s = false := by simp [inService, hservice]
    refine ⟨by simp [shown], by exact LaneDirectives.flatMap_length_const (k := 5) (fun e => rfl) shown,
      FlowTable.answers_of_read fun a ha => ?_⟩
    show Host.Outcome.next (issueUnless (inService s) formSdlRead .sdlRead _ serveSdlRead s) = _
    rw [issueUnless_free hfree]
    refine Transport.next_issueDirective_of_serve hissue ?_
    unfold serveSdlRead
    rw [formSdlRead_ok h1 h2 h3, afterForm_ok]
    exact ha

end Sys2Proof.ScheduledList
end


section
/-! The directives whose owners are asked in turn (O26, O28): the steps of an inquiry, and what else is not issued meanwhile. -/

namespace Sys2Proof.Inquiries

open Sys2Proof.Machine Sys2Proof.Safety Sys2Proof.Elementary

/-! ## What may not be issued changes nothing (R129) -/

theorem issueUnless_of_not {α : Type} {waits : Bool} {form : List Word → Except Status α} {d : Directive} {ps : List Word}
    {serve : List Word → Nat → State → Answer} {s : State} (h : ¬ mayIssue d ps s) : issueUnless waits form d ps serve s = s := by
  unfold issueUnless
  split
  · rfl
  · exact issueDirective_of_not h serve

theorem inquireDirective_of_not {α : Type} {form : List Word → Except Status α} {owners : α → Owners} {d : Directive}
    {ps : List Word} {s : State} (h : ¬ mayIssue d ps s) : inquireDirective d form owners ps s = s := by
  rcases inquireDirective_cases d form owners ps s with ⟨-, heq⟩ | ⟨hissue, -⟩ | ⟨hissue, -⟩
  · exact heq
  · exact absurd hissue h
  · exact absurd hissue h

theorem restartEnvelope_of_form {ps : List Word} {scope : RestartScope} (h : formRestart ps = .ok scope) :
    restartEnvelope scope = tableEnvelope .restart ps := by
  unfold formRestart at h
  split at h
  · next w =>
    split at h
    · next hw =>
      cases h
      rw [hw]
      rfl
    · split at h
      · next hw =>
        cases h
        rw [hw]
        rfl
      · cases h
  · cases h

theorem issueRestart_of_not {scope : RestartScope} {s : State} (h : issuable (restartEnvelope scope) s = false) :
    issueRestart scope s = s := if_neg (by simp [h])

/-- A command whose directive may not be issued has no effect. -/
theorem exec_of_not_issuable {i : Instr} {e : Envelope} {s : State} (h : envelopeOf i = some e) (hnot : issuable e s = false) :
    exec i s = .next s := by
  have hmay {d : Directive} {ps : List Word} (he : some (tableEnvelope d ps) = some e) : ¬ mayIssue d ps s := by
    rw [mayIssue, Option.some.inj he, hnot]
    exact Bool.false_ne_true
  cases i
  case unknownCode code ps =>
    cases h
    refine congrArg Host.Outcome.next ?_
    split
    · rfl
    · exact if_neg (by simp [hnot])
  case restartLanes ps =>
    refine congrArg Host.Outcome.next ?_
    split
    · next scope hscope => exact issueRestart_of_not (by rw [restartEnvelope_of_form hscope, Option.some.inj h, hnot])
    · exact issueDirective_of_not (hmay h) _
  case restartFull => exact congrArg _ (issueRestart_of_not (by rw [← hnot, ← Option.some.inj h]; rfl))
  case unitRead => exact congrArg _ (inquireDirective_of_not (hmay h))
  case portRead => exact congrArg _ (inquireDirective_of_not (hmay h))
  case portZero => exact congrArg _ (inquireDirective_of_not (hmay h))
  case schedAt => exact congrArg _ (issueUnless_of_not (hmay h))
  case sdlCancel => exact congrArg _ (issueUnless_of_not (hmay h))
  case sdlCancelAll => exact congrArg _ (issueUnless_of_not (hmay h))
  case sdlRead => exact congrArg _ (issueUnless_of_not (hmay h))
  all_goals cases h
  all_goals exact congrArg _ (issueDirective_of_not (hmay rfl) _)

/-! ## One step of an inquiry (R143, R146) -/

/-- The inquiry as it stands, in the words of the statements. -/
theorem inquiryOf_eq {e : Envelope} {s : State} (own : ∀ q, s.control.inquiry = some q → q.envelope = e) :
    inquiryOf e s = { envelope := e, asked := askedSoFar s, words := givenSoFar s } := by
  unfold inquiryOf askedSoFar givenSoFar
  cases hq : s.control.inquiry with
  | none => rfl
  | some q =>
    obtain ⟨envelope, asked, words⟩ := q
    have henvelope : envelope = e := own _ hq
    rw [henvelope]
    rfl

/-- A step of e's inquiry in s: n owners answer, they leave u, and `given` is what has been given then. -/
structure Asked (e : Envelope) (o : Owners) (s : State) (n : Nat) (u : State) (given : List Word) : Prop where
  own : ∀ q, s.control.inquiry = some q → q.envelope = e
  count : (ownersNow o (inquiryOf e s) s).length = n
  effect : (ownersNow o (inquiryOf e s) s).foldl (fun t k => o.effect k t) s = u
  control : u.control = s.control
  surroundings : u.surroundings = s.surroundings
  gives : givenSoFar s ++ (ownersNow o (inquiryOf e s) s).flatMap (fun k => o.words k s) = given

namespace Asked

variable {e : Envelope} {o : Owners} {s : State} {n : Nat} {u : State} {given : List Word} (h : Asked e o s n u given)
include h

theorem askOwners_eq :
    askOwners o (inquiryOf e s) s = { u with surroundings := { s.surroundings with asks := s.surroundings.asks.tail } } := by
  rw [askOwners, h.effect]
  rfl

theorem inquiryNow_eq :
    inquiryNow o (inquiryOf e s) s = { envelope := e, asked := askedSoFar s + n, words := given } := by
  have hbase := inquiryOf_eq h.own
  unfold inquiryNow
  rw [h.count, show (inquiryOf e s).words = givenSoFar s by rw [hbase], h.gives,
    show (inquiryOf e s).asked = askedSoFar s by rw [hbase], show (inquiryOf e s).envelope = e by rw [hbase]]

/-- A step that leaves an owner to answer. -/
theorem going (left : askedSoFar s + n < o.count) :
    advanceInquiry e o s = inquiring (some { envelope := e, asked := askedSoFar s + n, words := given }) u := by
  rw [advanceInquiry_of_lt (by rw [h.inquiryNow_eq]; exact left), h.inquiryNow_eq, h.askOwners_eq, inquiring, h.surroundings]
  rfl

/-- The step in which the last owner answers. -/
theorem done (last : o.count ≤ askedSoFar s + n) :
    ((o.result given).length ≤ roomFor s →
      advanceInquiry e o s = conclude { code := e.code, status := .ok, results := o.result given } (inquiring none u)) ∧
    (roomFor s < (o.result given).length →
      advanceInquiry e o s = conclude { code := e.code, status := .noRoom, results := [] } (inquiring none u)) := by
  have hstate : setInquiry none (askOwners o (inquiryOf e s) s) = inquiring none u := by
    rw [h.askOwners_eq, inquiring, h.surroundings]
    rfl
  have hroom : roomFor (askOwners o (inquiryOf e s) s) = roomFor s := by
    rw [h.askOwners_eq]
    simp only [roomFor, h.control]
  have hwords : (inquiryNow o (inquiryOf e s) s).words = given := by rw [h.inquiryNow_eq]
  have hstep := advanceInquiry_of_le (e := e) (o := o) (s := s) (by rw [h.inquiryNow_eq]; exact last)
  simp only [hroom, hstate, hwords] at hstep
  refine ⟨fun hfits => ?_, fun hlong => ?_⟩
  · rw [hstep, readOut_of_le hfits]
  · rw [hstep, readOut_of_lt hlong]
    rfl

end Asked

/-! ## The figures the owners give -/

/-- An issuable directive is the one whose owners are being asked. -/
theorem own_of_issuable {e : Envelope} {s : State} (h : issuable e s = true) (q : Inquiry) (hq : s.control.inquiry = some q) :
    q.envelope = e := by
  by_contra hne
  rw [issuable_of_inquiry hq fun he => hne he.symm] at h
  cases h

/-- The words of the next owners are the next figures. -/
theorem flatMap_figures {figures : List (List Word)} {f : Nat → List Word} (hf : ∀ k < figures.length, f k = figures.getD k [])
    (a n : Nat) :
    (((List.range figures.length).drop a).take n).flatMap f = ((figures.drop a).take n).flatten := by
  have hmap : (List.range figures.length).map f = figures := by
    refine List.ext_getElem (by simp) fun k hk hk' => ?_
    rw [List.getElem_map, List.getElem_range, hf k hk', List.getD_eq_getElem _ _ hk']
  rw [List.flatMap_def, List.map_take, List.map_drop, hmap]

/-- What an inquiry in progress has been given (R143, R146). -/
theorem given_length {e : Envelope} {s : State} {lengths : List Nat} (h : InquiryOk s) (mem : (e, lengths) ∈ inquiries)
    (own : ∀ q, s.control.inquiry = some q → q.envelope = e) :
    (givenSoFar s).length = (lengths.take (askedSoFar s)).sum ∧ askedSoFar s ≤ lengths.length := by
  unfold givenSoFar askedSoFar
  cases hq : s.control.inquiry with
  | none => exact ⟨rfl, Nat.zero_le _⟩
  | some q =>
    obtain ⟨-, -, asks, hasks, henvelope, hlt, hwords⟩ := h q (by rw [hq]; exact List.mem_singleton.mpr rfl)
    have hsame : ∀ x ∈ inquiries, ∀ y ∈ inquiries, x.1 = y.1 → x = y := by decide
    have hpair : asks = (e, lengths) := hsame asks hasks _ mem (henvelope.symm.trans (own q hq))
    rw [hpair] at hlt hwords
    exact ⟨hwords, le_of_lt hlt⟩

/-- All the words of an inquiry whose last owner has answered. -/
theorem all_given_length {e : Envelope} {s : State} {figures : List (List Word)} (h : InquiryOk s)
    (mem : (e, figures.map List.length) ∈ inquiries) (own : ∀ q, s.control.inquiry = some q → q.envelope = e) {n : Nat}
    (last : figures.length ≤ askedSoFar s + n) :
    (givenSoFar s ++ ((figures.drop (askedSoFar s)).take n).flatten).length = (figures.map List.length).sum := by
  obtain ⟨hgiven, -⟩ := given_length h mem own
  have hall : (figures.drop (askedSoFar s)).take n = figures.drop (askedSoFar s) :=
    List.take_of_length_le (by rw [List.length_drop]; omega)
  rw [hall, List.length_append, hgiven, List.length_flatten, List.map_drop, List.sum_take_add_sum_drop]

end Sys2Proof.Inquiries
end


section
/-! UNIT_READ, TIME_READ (O26), PORT_READ and PORT_ZERO (O28). -/

namespace Sys2Proof.Inquiries

open Sys2Proof.Machine Sys2Proof.Safety Sys2Proof.Elementary

/-! ## UNIT_READ (R143) -/

/-- What UNIT_READ is given, in the words of the statements. -/
theorem unitFigures_eq (s : State) :
    let k := s.control.counters
    unitFigures s =
      [[0x0416, 1, BitVec.ofNat 16 ((s.control.group.getD 0).toNat * 256 + s.control.unitAddr.toNat)],
        [if s.time.isSet then 32768 else 0], [if s.store.fullFlag then 16384 else 0],
        [if s.control.overrunFlag then 8192 else 0], [BitVec.ofNat 16 s.store.freeCells, BitVec.ofNat 16 s.store.freeRecords],
        [BitVec.ofNat 16 s.scheduler.list.length],
        [BitVec.ofNat 16 ((if s.reports.reserved then 32768 else 0) + s.reports.queue.length)],
        [BitVec.ofNat 16 s.control.intake.length], twoWords k.notMine, twoWords k.twins, twoWords k.retries,
        twoWords k.retriesDropped, twoWords k.overrun,
        twoWords s.classifier.unknown.a ++ twoWords s.classifier.unknown.b, [BitVec.ofNat 16 (256 + s.reports.mask.toNat)],
        [s.reports.suppressed]] := by
  have haddress (g : BitVec 8) (a : BitVec 6) :
      (g ++ a.setWidth 8 : BitVec 16) = BitVec.ofNat 16 (g.toNat * 256 + a.toNat) := by
    apply BitVec.eq_of_toNat_eq
    have := g.isLt
    have := a.isLt
    have hlow : (a.setWidth 8).toNat = a.toNat := by
      rw [BitVec.toNat_setWidth]
      omega
    rw [BitVec.toNat_append, hlow, ← Nat.shiftLeft_add_eq_or_of_lt (by omega), Nat.shiftLeft_eq, BitVec.toNat_ofNat]
    omega
  have hmask (m : BitVec 8) : maskWord m = BitVec.ofNat 16 (256 + m.toNat) := by
    revert m
    decide
  have hbit (b : Bool) (n : Nat) : word (b.toNat * n) = if b then BitVec.ofNat 16 n else 0 := by cases b <;> simp [word]
  have hreserved : s.reports.reserved.toNat * 32768 = if s.reports.reserved then 32768 else 0 :=
    LaneDirectives.bool_toNat_mul _ _
  simp only [unitFigures, groupByte, haddress, hmask, hbit, hreserved]
  rfl

/-- The numbers of the owners that do not wait, while an expiry is in service (R165). -/
theorem takeWhile_ne_five (a : Nat) :
    ((List.range 16).drop a).takeWhile (fun k => !(k == 5)) =
      ((List.range 16).drop a).take ((if a ≤ 5 then 5 else 16) - a) := by
  by_cases ha : a ≤ 5
  · rw [if_pos ha]
    have hall : ∀ a : Fin 6, ((List.range 16).drop a.val).takeWhile (fun k => !(k == 5)) =
        ((List.range 16).drop a.val).take (5 - a.val) := by decide
    exact hall ⟨a, by omega⟩
  · rw [if_neg ha, List.take_of_length_le (by simp), List.takeWhile_eq_self_iff]
    intro k hk
    obtain ⟨i, hi, rfl⟩ := List.getElem_of_mem hk
    simp
    omega

theorem takeWhile_take {α : Type} (p : α → Bool) (n : Nat) (l : List α) :
    (l.take n).takeWhile p = (l.takeWhile p).take n := by
  induction l generalizing n with
  | nil => simp
  | cons a l ih =>
    cases n with
    | zero => simp
    | succ n =>
      cases hp : p a <;> simp [hp, ih]

/-- How many owners UNIT_READ's step asks, in the words of the statements. -/
theorem unitOwners_count (q : Inquiry) (s : State) :
    (ownersNow unitOwners q s).length =
      min (s.surroundings.asks.headD 16) ((if s.scheduler.service ≠ none ∧ q.asked ≤ 5 then 5 else 16) - q.asked) := by
  unfold ownersNow
  show ((((List.range 16).drop q.asked).take (s.surroundings.asks.headD 16)).takeWhile
    fun k => !(k == 5 && inService s)).length = _
  rw [takeWhile_take]
  cases hs : inService s with
  | true =>
    have hservice : s.scheduler.service ≠ none := Option.isSome_iff_ne_none.mp hs
    simp only [Bool.and_true, takeWhile_ne_five, hservice, ne_eq, not_false_eq_true, true_and]
    simp only [List.length_take, List.length_drop, List.length_range]
    split <;> omega
  | false =>
    have hservice : s.scheduler.service = none := by
      simpa [inService] using hs
    have hall : ((List.range 16).drop q.asked).takeWhile (fun k => !(k == 5 && false)) = (List.range 16).drop q.asked :=
      List.takeWhile_eq_self_iff.mpr fun k _ => by simp
    rw [hall]
    simp [hservice]

/-- TIME_READ gives its three words in one request (R72). -/
theorem timeRead_answers {s : State} (hissue : mayIssue .timeRead [] s) :
    let words : List Word := [if s.time.isSet then 1 else 0, s.time.tb.extractLsb' 16 16, s.time.tb.extractLsb' 0 16]
    (3 ≤ roomFor s → exec (.timeRead []) s = .next (answered .timeRead .ok words s)) ∧
      (roomFor s < 3 → exec (.timeRead []) s = .next (answered .timeRead .noRoom [] s)) := by
  intro words
  have hwords : word s.time.isSet.toNat :: twoWords s.time.tb = words := by
    cases hset : s.time.isSet <;> simp [words, hset, twoWords, highWord, lowWord, word]
  refine FlowTable.answers_of_read (ws := words) fun a ha => Transport.next_issueDirective_of_serve hissue ?_
  rw [← hwords] at ha
  exact ha

/-- Settles O26: each step of UNIT_READ asks the next owners, and the last answers it. -/
theorem deviceReads : Obligations.DeviceReads := by
  intro s
  refine ⟨fun q i e hq he hne => exec_of_not_issuable he (issuable_of_inquiry hq hne), fun hissue => ?_, timeRead_answers⟩
  intro k figures asked n given
  have hfigures : unitFigures s = figures := unitFigures_eq s
  have hlengths : figures.map List.length = [3, 1, 1, 1, 2, 1, 1, 1, 2, 2, 2, 2, 2, 4, 1, 1] := rfl
  have hsixteen : figures.length = 16 := rfl
  clear_value figures
  have own := own_of_issuable hissue
  have hbase := inquiryOf_eq (s := s) own
  have hcount : (ownersNow unitOwners (inquiryOf (tableEnvelope .unitRead []) s) s).length = n := by
    rw [unitOwners_count, hbase]
    rfl
  have hgives : givenSoFar s ++
      (ownersNow unitOwners (inquiryOf (tableEnvelope .unitRead []) s) s).flatMap (fun k => unitOwners.words k s) = given := by
    rw [ownersNow_eq_take, hcount, hbase]
    have hnext := flatMap_figures (figures := figures) (f := fun k => (unitFigures s).getD k []) (fun k _ => by rw [hfigures])
      asked n
    rw [hsixteen] at hnext
    exact congrArg (givenSoFar s ++ ·) hnext
  have hstep : Asked (tableEnvelope .unitRead []) unitOwners s n s given :=
    ⟨own, hcount, List.foldl_fixed _, rfl, rfl, hgives⟩
  have hexec : exec (.unitRead []) s = .next (advanceInquiry (tableEnvelope .unitRead []) unitOwners s) :=
    congrArg Host.Outcome.next (if_pos hissue)
  refine ⟨fun left => ?_, fun last => ⟨fun hok => ?_, ?_⟩⟩
  · exact hexec.trans (congrArg Host.Outcome.next (hstep.going left))
  · have hmem : (tableEnvelope .unitRead [], figures.map List.length) ∈ inquiries := by
      rw [hlengths]
      exact List.mem_cons_self
    have hsum := all_given_length hok hmem own (by rw [hsixteen]; exact last)
    rw [hlengths] at hsum
    exact hsum
  · intro code revision address time store overrun rest hgiven words
    have hresult : unitOwners.result given = words := by rw [hgiven]; rfl
    obtain ⟨hfits, hlong⟩ := hstep.done last
    rw [hresult] at hfits hlong
    exact ⟨fun h => hexec.trans (congrArg Host.Outcome.next (hfits h)), fun h => hexec.trans (congrArg Host.Outcome.next (hlong h))⟩

/-! ## PORT_READ and PORT_ZERO (R19, R20, R146) -/

/-- What the port and the classifier give PORT_READ, in the words of the statements. -/
theorem portFigures_eq (p : PortId) (s : State) :
    let x := portOf s p
    let k := x.counters
    [portFigure p s 0, portFigure p s 1] =
      [BitVec.ofNat 16
          ((if x.up then 32768 else 0) + (if x.errorFlag then 16384 else 0) + (if x.receiving then 8192 else 0) +
            x.buffer.length) ::
          (twoWords k.completed ++ twoWords k.mediaGood ++ twoWords k.controlGood ++ twoWords k.crc ++
            twoWords k.length ++ twoWords k.kind ++ twoWords k.truncated ++ twoWords k.overflow),
        twoWords (perPort s.classifier.unknown p)] := by
  simp only [portFigure, portWords, LaneDirectives.bool_toNat_mul, word, List.flatMap_cons, List.flatMap_nil, List.append_nil,
    List.append_assoc]

/-- The parameter that names a port (R146). -/
theorem formPort_ok {ps : List Word} {p : PortId} (h : ps = [if p = .a then 0 else 1]) : formPort ps = .ok p := by
  rw [h]
  cases p <;> rfl

theorem formPort_bad {ps : List Word} (h0 : ps ≠ [0]) (h1 : ps ≠ [1]) : formPort ps = .error .badParam := by
  unfold formPort
  split
  · next w =>
    have hw0 : w ≠ 0 := fun h => h0 (by rw [h])
    have hw1 : w ≠ 1 := fun h => h1 (by rw [h])
    rw [portParam, if_neg hw0, if_neg hw1]
  · rfl

/-- Such a directive whose form passes is a step of its inquiry. -/
theorem inquireDirective_of_ok {α : Type} {d : Directive} {form : List Word → Except Status α} {owners : α → Owners} {ps : List Word}
    {s : State} {x : α} (hform : form ps = .ok x) (hissue : mayIssue d ps s) :
    inquireDirective d form owners ps s = advanceInquiry (tableEnvelope d ps) (owners x) s := by
  rw [inquireDirective, hform]
  exact if_pos hissue

/-- Such a directive whose form fails asks nobody. -/
theorem inquireDirective_of_error {α : Type} {d : Directive} {form : List Word → Except Status α} {owners : α → Owners}
    {ps : List Word} {s : State} {st : Status} (hform : form ps = .error st) (hissue : mayIssue d ps s) :
    inquireDirective d form owners ps s = answered d st [] s := by
  rw [inquireDirective, hform]
  exact issueDirective_of_mayIssue hissue _

/-- The step of PORT_READ. -/
theorem portRead_asked {p : PortId} {ps : List Word} {s : State} (hissue : mayIssue .portRead ps s) :
    Asked (tableEnvelope .portRead ps) (portReadOwners p) s (answersNow 2 2 s) s
      (givenSoFar s ++ (([portFigure p s 0, portFigure p s 1].drop (askedSoFar s)).take (answersNow 2 2 s)).flatten) := by
  have own := own_of_issuable hissue
  have hbase := inquiryOf_eq (s := s) own
  have hcount : (ownersNow (portReadOwners p) (inquiryOf (tableEnvelope .portRead ps) s) s).length = answersNow 2 2 s := by
    rw [ownersNow_length _ fun _ => rfl, hbase]
    rfl
  refine ⟨own, hcount, List.foldl_fixed _, rfl, rfl, ?_⟩
  rw [ownersNow_eq_take, hcount, hbase]
  refine congrArg (givenSoFar s ++ ·) (flatMap_figures (figures := [portFigure p s 0, portFigure p s 1])
    (f := portFigure p s) (fun k hk => ?_) (askedSoFar s) (answersNow 2 2 s))
  match k, hk with
  | 0, _ => rfl
  | 1, _ => rfl

/-- The part after a step of PORT_ZERO: the port zeroed when it is asked, the classifier's count when it is (R20). -/
def zeroedState (p : PortId) (s : State) : State :=
  { s with
    ports :=
      if askedSoFar s = 0 ∧ 1 ≤ answersNow 2 2 s then
        setPerPort s.ports p { portOf s p with counters := ⟨0, 0, 0, 0, 0, 0, 0, 0⟩, errorFlag := false }
      else s.ports
    classifier :=
      if askedSoFar s ≤ 1 ∧ 2 ≤ askedSoFar s + answersNow 2 2 s then
        { s.classifier with unknown := setPerPort s.classifier.unknown p 0 }
      else s.classifier }

theorem foldl_zeroOwner (p : PortId) (s : State) {a n : Nat} (ha : askedSoFar s = a) (hn : answersNow 2 2 s = n) (hle : n ≤ 2 - a) :
    (((List.range 2).drop a).take n).foldl (fun t k => zeroOwner p k t) s = zeroedState p s := by
  unfold zeroedState
  rw [ha, hn]
  match a, n with
  | 0, 0 => rfl
  | 0, 1 => rfl
  | 0, 2 => rfl
  | 1, 0 => rfl
  | 1, 1 => rfl
  | a + 2, n =>
    have hzero : n = 0 := by omega
    subst hzero
    rw [if_neg (by omega), if_neg (by omega)]
    rfl

/-- The step of PORT_ZERO. -/
theorem portZero_asked {p : PortId} {ps : List Word} {s : State} (hissue : mayIssue .portZero ps s) (hgiven : givenSoFar s = []) :
    Asked (tableEnvelope .portZero ps) (portZeroOwners p) s (answersNow 2 2 s) (zeroedState p s) [] := by
  have own := own_of_issuable hissue
  have hbase := inquiryOf_eq (s := s) own
  have hcount : (ownersNow (portZeroOwners p) (inquiryOf (tableEnvelope .portZero ps) s) s).length = answersNow 2 2 s := by
    rw [ownersNow_length _ fun _ => rfl, hbase]
    rfl
  refine ⟨own, hcount, ?_, rfl, rfl, ?_⟩
  · rw [ownersNow_eq_take, hcount, hbase]
    exact foldl_zeroOwner p s rfl rfl (Nat.min_le_right _ _)
  · rw [hgiven]
    exact List.flatMap_eq_nil_iff.mpr fun _ _ => rfl

/-- Settles O28: one step of each inquiry, and the form failure. -/
theorem portDirectives : Obligations.PortDirectives := by
  intro ps s
  refine ⟨fun p hps => ?_, fun h0 h1 => ⟨fun hissue => ?_, fun hissue => ?_⟩⟩
  · intro x k asked n going figures
    have hfigures : [portFigure p s 0, portFigure p s 1] = figures := portFigures_eq p s
    have hlengths : figures.map List.length = [17, 2] := rfl
    clear_value figures
    refine ⟨fun hissue => ?_, fun hissue hgiven => ?_⟩
    · intro words
      have hstep := portRead_asked (p := p) hissue
      rw [hfigures] at hstep
      have hexec : exec (.portRead ps) s = .next (advanceInquiry (tableEnvelope .portRead ps) (portReadOwners p) s) :=
        congrArg Host.Outcome.next (inquireDirective_of_ok (formPort_ok hps) hissue)
      refine ⟨fun left => hexec.trans (congrArg Host.Outcome.next (hstep.going left)), fun last => ⟨fun hok => ?_, ?_⟩⟩
      · have hmem : (tableEnvelope .portRead ps, figures.map List.length) ∈ inquiries := by
          rw [hlengths, hps]
          cases p <;> simp [inquiries, tableEnvelope]
        have htwo : figures.length = 2 := by simpa using congrArg List.length hlengths
        have hsum := all_given_length hok hmem (own_of_issuable hissue) (by rw [htwo]; exact last)
        rw [hlengths] at hsum
        exact hsum
      · obtain ⟨hfits, hlong⟩ := hstep.done last
        exact ⟨fun h => hexec.trans (congrArg Host.Outcome.next (hfits h)),
          fun h => hexec.trans (congrArg Host.Outcome.next (hlong h))⟩
    · intro t
      have hstep := portZero_asked (p := p) hissue hgiven
      have hexec : exec (.portZero ps) s = .next (advanceInquiry (tableEnvelope .portZero ps) (portZeroOwners p) s) :=
        congrArg Host.Outcome.next (inquireDirective_of_ok (formPort_ok hps) hissue)
      exact ⟨fun left => hexec.trans (congrArg Host.Outcome.next (hstep.going left)),
        fun last => hexec.trans (congrArg Host.Outcome.next ((hstep.done last).1 (Nat.zero_le _)))⟩
  · exact congrArg Host.Outcome.next (inquireDirective_of_error (formPort_bad h0 h1) hissue)
  · exact congrArg Host.Outcome.next (inquireDirective_of_error (formPort_bad h0 h1) hissue)

end Sys2Proof.Inquiries
end


section
/-! The report generator's own events: NOTICE_REQUEST (O51), REPORT_COMPLETION and RPT_HOLD_CHANGE (O52). -/

namespace Sys2Proof.ReportEvents

open Sys2Proof.Machine Sys2Proof.Safety

/-! ## Transmission (R183) -/

/-- What RPT does when nothing goes out: the head begins unless RPT_HOLD is asserted (R183). -/
def linkAtRest (queue : List Report) (hold : Bool) : RptLink := if queue = [] ∨ hold = true then .quiet else .head

/-- The transmission begins from rest. -/
theorem beginTransmission_of_quiet {r : Reports} (h : r.link = .quiet) :
    beginTransmission r = { r with link := linkAtRest r.queue r.hold } := by
  rw [beginTransmission_eq]
  unfold linkAtRest
  by_cases hqueue : r.queue = []
  · simp [h, hqueue]
  · cases hhold : r.hold <;> simp [h, hqueue]

/-- No report begins while another goes out. -/
theorem beginTransmission_of_busy {r : Reports} (h : r.link ≠ .quiet) : beginTransmission r = r := by
  rw [beginTransmission, if_neg fun hbegin => h hbegin.1]

/-- A report block in the words of R2. -/
theorem reportWords_eq (x : Report) :
    reportWords x =
      let body : List Word :=
        [if x.kind = .response then 0x3000 else 0x4000, 0, x.seq, x.pts.extractLsb' 16 16, x.pts.extractLsb' 0 16,
          BitVec.ofNat 16 x.payload.length] ++ x.payload
      body ++ [crc body] := by
  obtain ⟨kind, seq, pts, payload⟩ := x
  cases kind <;> rfl

/-- Settles O52, by what is in transmission. -/
theorem reportTransmission : Obligations.ReportTransmission := by
  intro s
  refine ⟨fun hquiet => ⟨by rw [rptWords, hquiet], congrArg Host.Outcome.next (by rw [reportCompletion, hquiet])⟩,
    fun x more hhead hqueue => ?_, fun x hdetached => ?_, fun hhead => ?_, fun x hdetached => ?_, fun level => ?_⟩
  · rw [rptWords, hhead, hqueue]
    exact reportWords_eq x
  · rw [rptWords, hdetached]
    exact reportWords_eq x
  · have hnext := beginTransmission_of_quiet (r := { s.reports with queue := s.reports.queue.tail, link := .quiet }) rfl
    refine congrArg Host.Outcome.next ?_
    rw [reportCompletion, hhead]
    exact congrArg (setReports · s) hnext
  · have hnext := beginTransmission_of_quiet (r := { s.reports with link := .quiet }) rfl
    refine congrArg Host.Outcome.next ?_
    rw [reportCompletion, hdetached]
    exact congrArg (setReports · s) hnext
  · refine congrArg Host.Outcome.next ?_
    by_cases hquiet : s.reports.link = .quiet
    · rw [if_pos hquiet]
      exact congrArg (setReports · s) (beginTransmission_of_quiet (r := { s.reports with hold := level }) hquiet)
    · rw [if_neg hquiet]
      exact congrArg (setReports · s) (beginTransmission_of_busy (r := { s.reports with hold := level }) hquiet)

/-! ## Notices (R180, R181, R182) -/

/-- The classes of R184 are 0 to 8. -/
theorem noticeClass_le (n : Notice) : noticeClass n ≤ 8 := by cases n <;> simp [noticeClass]

/-- P0 of a notice as it is admitted (R7, R182). -/
theorem stampUnset_noticePayload (isSet : Bool) (unit : BitVec 6) (suppressed : Word) (n : Notice) :
    stampUnset isSet (noticePayload unit suppressed n) =
      [BitVec.ofNat 16 ((if isSet then 0 else 32768) + noticeClass n * 256 + unit.toNat), noticeCode n, suppressed,
        BitVec.ofNat 16 (noticeArgs n).length] ++ noticeArgs n := by
  have hclass := noticeClass_le n
  have hunit := unit.isLt
  have hlow : (0#4 ++ BitVec.ofNat 4 (noticeClass n) ++ unit.setWidth 8 : BitVec 16).toNat =
      noticeClass n * 256 + unit.toNat := by
    have hset : (unit.setWidth 8).toNat = unit.toNat := by
      rw [BitVec.toNat_setWidth]
      omega
    rw [BitVec.toNat_append, hset, ← Nat.shiftLeft_add_eq_or_of_lt (by omega), Nat.shiftLeft_eq, BitVec.toNat_append,
      BitVec.toNat_ofNat, BitVec.toNat_ofNat, Nat.zero_mod, Nat.zero_shiftLeft, Nat.zero_or, Nat.mod_eq_of_lt (show noticeClass n < 2 ^ 4 by omega)]
  cases isSet
  · have hhigh : (0#4 ++ BitVec.ofNat 4 (noticeClass n) ++ unit.setWidth 8 ||| 0x8000#16 : BitVec 16) =
        BitVec.ofNat 16 (32768 + noticeClass n * 256 + unit.toNat) := by
      apply BitVec.eq_of_toNat_eq
      rw [BitVec.toNat_or, hlow, Nat.or_comm]
      have := Nat.two_pow_add_eq_or_of_lt (i := 15) (b := noticeClass n * 256 + unit.toNat) (by omega) 1
      have h8000 : (0x8000#16 : BitVec 16).toNat = 2 ^ 15 * 1 := rfl
      rw [h8000, ← this, BitVec.toNat_ofNat]
      omega
    exact congrArg (· :: (noticeCode n :: suppressed :: word (noticeArgs n).length :: noticeArgs n)) hhigh
  · have hclear : (0#4 ++ BitVec.ofNat 4 (noticeClass n) ++ unit.setWidth 8 : BitVec 16) =
        BitVec.ofNat 16 (0 + noticeClass n * 256 + unit.toNat) := by
      apply BitVec.eq_of_toNat_eq
      rw [hlow, BitVec.toNat_ofNat]
      omega
    exact congrArg (· :: (noticeCode n :: suppressed :: word (noticeArgs n).length :: noticeArgs n)) hclear

/-- A notice is admitted while its class is enabled and fewer than 12 reports are held (R180). -/
theorem noticeAdmissible_iff {n : Notice} {s : State} :
    noticeAdmissible n s = true ↔
      (noticeClass n = 8 ∨ s.reports.mask.getLsbD (noticeClass n) = true) ∧ s.reports.queue.length < 12 := by
  rw [noticeAdmissible, Bool.and_eq_true, classEnabled, Bool.or_eq_true, beq_iff_eq]
  exact and_congr_right' decide_eq_true_iff

/-- The suppressed count after a refusal (R181). -/
theorem suppressedCount_eq (w : Word) : word (min (w.toNat + 1) 65535) = if w = 65535 then 65535 else w + 1 := by
  have hw := w.isLt
  split
  · next h =>
    subst h
    rfl
  · next h =>
    have hne : w.toNat ≠ 65535 := fun heq => h (BitVec.eq_of_toNat_eq heq)
    apply BitVec.eq_of_toNat_eq
    rw [word, BitVec.toNat_ofNat, BitVec.toNat_add, Nat.min_eq_left (by omega)]
    rfl

/-- The requests in front of the first n among those that wait. -/
theorem takeWhile_ne_of_first {n : Notice} {before behind : List Notice} (h : ∀ w ∈ before, w ≠ n) :
    ((before ++ [n] ++ behind).takeWhile fun w => w != n) = before := by
  rw [List.append_assoc, List.takeWhile_append_of_pos (by simpa using h)]
  simp

/-- Settles O51: the waiting list splits at the notice's first request, or does not hold it. -/
theorem noticeRequestJudged : Obligations.NoticeRequestJudged := by
  intro s n before behind hfirst hwaiting enabled
  have hmem : n ∉ before := fun hn => hfirst n hn rfl
  have hahead : (s.requests.takeWhile fun w => w != n) = before := by
    rcases hwaiting with h | ⟨h, -⟩
    · rw [h, takeWhile_ne_of_first hfirst]
    · rw [h]
      exact List.takeWhile_eq_self_iff.mpr (by simpa using hfirst)
  have hrest : s.requests.erase n = before ++ behind := by
    rcases hwaiting with h | ⟨h, hbehind⟩
    · rw [h, List.append_assoc, List.erase_append_right _ hmem, List.singleton_append, List.erase_cons_head]
    · rw [h, hbehind, List.erase_of_not_mem hmem, List.append_nil]
  have hwait : mustWait n s.requests = true ↔ ∃ w ∈ before, requesterOf w = requesterOf n := by
    simp [mustWait, hahead]
  refine ⟨fun hbusy => congrArg Host.Outcome.next (if_pos (hwait.mpr hbusy)), fun hfree => ?_⟩
  have hserve : noticeRequest n s = serveNotice n { s with requests := before ++ behind } := by
    rw [noticeRequest, if_neg (fun h => by
      obtain ⟨w, hw, heq⟩ := hwait.mp h
      exact hfree w hw heq), hrest]
    rfl
  refine ⟨fun henabled hroom => ?_, fun hrefused => ?_⟩
  · have hadmit : noticeAdmissible n { s with requests := before ++ behind } = true :=
      (noticeAdmissible_iff).mpr ⟨henabled, hroom⟩
    refine congrArg Host.Outcome.next ?_
    rw [hserve, serveNotice, if_pos hadmit, admitNotice_eq, pushReport_added, stampUnset_noticePayload]
    rfl
  · have hrefuse : ¬ noticeAdmissible n { s with requests := before ++ behind } = true := fun h => by
      obtain ⟨henabled, hroom⟩ := (noticeAdmissible_iff).mp h
      exact hrefused.elim (fun hnot => hnot henabled) fun hfull => Nat.not_le.mpr hroom hfull
    refine congrArg Host.Outcome.next ?_
    rw [hserve, serveNotice, if_neg hrefuse, refuseNotice_eq, suppressedCount_eq]

end Sys2Proof.ReportEvents
end

section
/-! Directive envelopes as words (O60). -/

namespace Sys2Proof.DirectiveReference

open Sys2Proof.Machine Sys2Proof.Safety

/-- The fields of an envelope word (R4). -/
theorem envelopeWord_eq_iff {w : Word} {code : BitVec 8} {count : Nat} (hcount : count < 256) :
    (code ++ BitVec.ofNat 8 count : BitVec 16) = w ↔ envelopeCode w = code ∧ envelopeCount w = count := by
  constructor
  · rintro rfl
    constructor
    · exact BitVec.extractLsb'_append_eq_left
    · rw [envelopeCount, BitVec.extractLsb'_append_eq_right, BitVec.toNat_ofNat]
      exact Nat.mod_eq_of_lt hcount
  · rintro ⟨rfl, rfl⟩
    rw [envelopeCount, BitVec.ofNat_toNat, BitVec.setWidth_eq]
    exact BitVec.extractLsb'_append_extractLsb'_eq_extractLsb' (by rfl) |>.trans (by simp)

/-- The walk reads envelopes back from their words. -/
theorem walkEnvelopes_flatMap_envelopeWords {es : List Envelope} (h : ∀ e ∈ es, e.params.length ≤ 64) :
    walkEnvelopes es.length (es.flatMap envelopeWords) = some es := by
  induction es with
  | nil => rfl
  | cons e es ih =>
    have hparams : e.params.length ≤ 64 := h e List.mem_cons_self
    obtain ⟨hcode, hcount⟩ := (envelopeWord_eq_iff (code := e.code) (show e.params.length < 256 by omega)).mp rfl
    have hfits : envelopeCount (e.code ++ BitVec.ofNat 8 e.params.length) ≤ Config.maxParams ∧
        envelopeCount (e.code ++ BitVec.ofNat 8 e.params.length) ≤ (e.params ++ es.flatMap envelopeWords).length := by
      rw [hcount, List.length_append]
      exact ⟨hparams, Nat.le_add_right _ _⟩
    rw [List.flatMap_cons, List.length_cons, envelopeWords, List.cons_append, walkEnvelopes, if_pos hfits, hcount, hcode,
      List.drop_left, List.take_left, ih fun x hx => h x (List.mem_cons_of_mem _ hx)]

/-- The walk reads nothing but envelopes' words. -/
theorem eq_flatMap_of_walkEnvelopes {count : Nat} {ws : List Word} {es : List Envelope}
    (h : walkEnvelopes count ws = some es) : es.length = count ∧ ws = es.flatMap envelopeWords := by
  induction count generalizing ws es with
  | zero =>
    cases ws with
    | nil =>
      cases h
      exact ⟨rfl, rfl⟩
    | cons _ _ => cases h
  | succ count ih =>
    obtain ⟨w, ws, rest, rfl, hparams, hwords, hrest, rfl⟩ := walkEnvelopes_succ_eq_some h
    obtain ⟨hlength, hdrop⟩ := ih hrest
    have htake : (ws.take (envelopeCount w)).length = envelopeCount w := List.length_take_of_le hwords
    have hword : (envelopeCode w ++ BitVec.ofNat 8 (envelopeCount w) : BitVec 16) = w :=
      (envelopeWord_eq_iff (by omega)).mpr ⟨rfl, rfl⟩
    refine ⟨congrArg (· + 1) hlength, ?_⟩
    rw [List.flatMap_cons, envelopeWords, htake, hword, ← hdrop, List.cons_append, List.take_append_drop]

/-- A well-formed control payload has 1 to 16 envelopes (R4). -/
theorem envelopesOf_eq_some_iff {payload : List Word} {es : List Envelope} :
    envelopesOf payload = some es ↔
      (1 ≤ (wordAt payload 2).toNat ∧ (wordAt payload 2).toNat ≤ 16) ∧
        walkEnvelopes (wordAt payload 2).toNat (payload.drop 3) = some es := by
  rw [envelopesOf]
  split
  · next h => exact (and_iff_right h).symm
  · next h => exact iff_of_false nofun fun hand => h hand.1

/-- A code names a directive just when the code table gives it that code. -/
theorem directiveCode_of_directiveOf {code : BitVec 8} {d : Directive} (h : directiveOf code = some d) :
    directiveCode d = code := by
  revert code d
  decide +kernel

/-- The envelope of a directive's command (R4, R5). -/
theorem envelopeOf_directiveCommand (d : Directive) (ps : List Word) :
    envelopeOf (directiveCommand d ps) = some (tableEnvelope d ps) := by
  cases d with
  | restart =>
    rw [directiveCommand]
    split
    · next h => rw [h]; rfl
    · rfl
  | sdlCancel =>
    rw [directiveCommand]
    split
    · next h => rw [h]; rfl
    · rfl
  | _ => rfl

/-- The envelope of a well-formed directive command spells that command, for every constructor. -/
theorem envelopeRoundTrip (i : Instr) : Laws.EnvelopeRoundTrip.Statement i := by
  cases i with
  | hardReset straps => exact Laws.EnvelopeRoundTrip.hardReset straps
  | linkGain port => exact Laws.EnvelopeRoundTrip.linkGain port
  | linkLoss port => exact Laws.EnvelopeRoundTrip.linkLoss port
  | blockStart port => exact Laws.EnvelopeRoundTrip.blockStart port
  | blockComplete port words => exact Laws.EnvelopeRoundTrip.blockComplete port words
  | framingFault port => exact Laws.EnvelopeRoundTrip.framingFault port
  | take => exact Laws.EnvelopeRoundTrip.take
  | watchSweep => exact Laws.EnvelopeRoundTrip.watchSweep
  | slotEvent lane => exact Laws.EnvelopeRoundTrip.slotEvent lane
  | frameCompletion lane => exact Laws.EnvelopeRoundTrip.frameCompletion lane
  | controlBlockOffer port seq payload => exact Laws.EnvelopeRoundTrip.controlBlockOffer port seq payload
  | executionStart => exact Laws.EnvelopeRoundTrip.executionStart
  | unknownCode code params => exact Laws.EnvelopeRoundTrip.unknownCode code params
  | restartLanes params => exact Laws.EnvelopeRoundTrip.restartLanes params
  | restartFull => exact Laws.EnvelopeRoundTrip.restartFull
  | sdlCancel params => exact Laws.EnvelopeRoundTrip.sdlCancel params
  | sdlCancelAll => exact Laws.EnvelopeRoundTrip.sdlCancelAll
  | expiry => exact Laws.EnvelopeRoundTrip.expiry
  | overdueRequest => exact Laws.EnvelopeRoundTrip.overdueRequest
  | noticeRequest notice => exact Laws.EnvelopeRoundTrip.noticeRequest notice
  | reportCompletion => exact Laws.EnvelopeRoundTrip.reportCompletion
  | rptHoldChange asserted => exact Laws.EnvelopeRoundTrip.rptHoldChange asserted
  | tbTick => exact Laws.EnvelopeRoundTrip.tbTick
  | echo params => exact Laws.EnvelopeRoundTrip.echo params
  | unitRead params => exact Laws.EnvelopeRoundTrip.unitRead params
  | groupSet params => exact Laws.EnvelopeRoundTrip.groupSet params
  | noticeMask params => exact Laws.EnvelopeRoundTrip.noticeMask params
  | portRead params => exact Laws.EnvelopeRoundTrip.portRead params
  | portZero params => exact Laws.EnvelopeRoundTrip.portZero params
  | flowSet params => exact Laws.EnvelopeRoundTrip.flowSet params
  | flowClear params => exact Laws.EnvelopeRoundTrip.flowClear params
  | flowRead params => exact Laws.EnvelopeRoundTrip.flowRead params
  | flowList params => exact Laws.EnvelopeRoundTrip.flowList params
  | flowZero params => exact Laws.EnvelopeRoundTrip.flowZero params
  | laneSet params => exact Laws.EnvelopeRoundTrip.laneSet params
  | laneSource params => exact Laws.EnvelopeRoundTrip.laneSource params
  | laneRead params => exact Laws.EnvelopeRoundTrip.laneRead params
  | lanePeek params => exact Laws.EnvelopeRoundTrip.lanePeek params
  | laneZero params => exact Laws.EnvelopeRoundTrip.laneZero params
  | start params => exact Laws.EnvelopeRoundTrip.start params
  | halt params => exact Laws.EnvelopeRoundTrip.halt params
  | run params => exact Laws.EnvelopeRoundTrip.run params
  | hold params => exact Laws.EnvelopeRoundTrip.hold params
  | step params => exact Laws.EnvelopeRoundTrip.step params
  | seek params => exact Laws.EnvelopeRoundTrip.seek params
  | cue params => exact Laws.EnvelopeRoundTrip.cue params
  | stop params => exact Laws.EnvelopeRoundTrip.stop params
  | timeSet params => exact Laws.EnvelopeRoundTrip.timeSet params
  | timeAdjust params => exact Laws.EnvelopeRoundTrip.timeAdjust params
  | timeRead params => exact Laws.EnvelopeRoundTrip.timeRead params
  | schedAt params => exact Laws.EnvelopeRoundTrip.schedAt params
  | sdlRead params => exact Laws.EnvelopeRoundTrip.sdlRead params

/-- Settles O60: the walk inverts the words of envelopes, and the code table is a bijection on the directives. -/
theorem envelopesRoundTrip : Obligations.EnvelopesRoundTrip := by
  refine ⟨fun p0 p1 es hone hsixteen hparams => ?_, fun p0 p1 p2 ws es h => ?_,
    fun i e hwell he => (envelopeRoundTrip i hwell e he).1, fun e => ?_⟩
  · have hcount : (wordAt ([p0, p1, BitVec.ofNat 16 es.length] ++ es.flatMap envelopeWords) 2).toNat = es.length := by
      change (BitVec.ofNat 16 es.length).toNat = es.length
      rw [BitVec.toNat_ofNat]
      omega
    refine (envelopesOf_eq_some_iff).mpr ⟨by omega, ?_⟩
    rw [hcount]
    exact walkEnvelopes_flatMap_envelopeWords hparams
  · obtain ⟨⟨hone, hsixteen⟩, hwalk⟩ := (envelopesOf_eq_some_iff).mp h
    obtain ⟨hlength, hwords⟩ := eq_flatMap_of_walkEnvelopes hwalk
    have hcount : es.length = p2.toNat := hlength
    refine ⟨?_, hlength ▸ hone, hlength ▸ hsixteen, fun e he => params_length_le_of_walkEnvelopes hwalk he, hwords⟩
    rw [hcount, BitVec.ofNat_toNat, BitVec.setWidth_eq]
  · obtain ⟨code, params⟩ := e
    rw [commandOf]
    cases hd : directiveOf code with
    | none => rfl
    | some d =>
      change envelopeOf (directiveCommand d params) = _
      rw [envelopeOf_directiveCommand, tableEnvelope, directiveCode_of_directiveOf hd]

end Sys2Proof.DirectiveReference
end


section
/-! The control unit: offers (O45, O46), the start of a block (O47) and the answers of its directives (O48). -/

namespace Sys2Proof.ControlUnit

open Sys2Proof.Machine Sys2Proof.Safety

/-! ## Offers (R123, R124, R126, R133) -/

/-- While a RESTART FULL is in progress an offer is kept when none waits (R137, log entries 4 and 27). -/
theorem serveOffer_of_inFullRestart {s : State} (h : inFullRestart s) (o : Offer) :
    serveOffer o s = { s with offers := if s.offers = [] then [o] else s.offers } := by
  have hrestart : restartingFull s = true := decide_eq_true h
  rw [serveOffer, hrestart]
  cases hoffers : s.offers with
  | nil =>
    rw [if_pos rfl]
    rfl
  | cons first rest =>
    change s = _
    rw [if_neg (List.cons_ne_nil _ _), ← hoffers]

/-- An offer whose turn has come is judged, and nothing but its place among the offers has changed before (R15). -/
theorem serveOffer_of_offerTaken {o : Offer} {s u : State} (h : offerTaken o s u) :
    serveOffer o s = judgeOffer o u ∧ ∃ offers, u = { s with offers := offers } := by
  obtain ⟨hfree, hplace⟩ := h
  have hrestart : restartingFull s = false := decide_eq_false hfree
  rw [serveOffer, hrestart]
  rcases hplace with ⟨hnone, rfl⟩ | ⟨rest, hfirst, rfl⟩
  · rw [hnone]
    exact ⟨rfl, u.offers, rfl⟩
  · rw [hfirst]
    exact ⟨if_pos rfl, rest, rfl⟩

/-- R123, in the words of the statements. -/
theorem addressed_iff {o : Offer} {s : State} :
    addressed o s ↔ ¬ (o.payload.length < 3 ∨ addressMatches s.control (addressOf o.payload) = false) := by
  have hunit := s.control.unitAddr.isLt
  have hset : (s.control.unitAddr.setWidth 8).toNat = s.control.unitAddr.toNat := by
    rw [BitVec.toNat_setWidth]
    omega
  have hlt := (addressOf o.payload).isLt
  have hmatch : addressMatches s.control (addressOf o.payload) = true ↔
      ((addressOf o.payload).toNat ≤ 63 ∧ (addressOf o.payload).toNat = s.control.unitAddr.toNat) ∨
        (64 ≤ (addressOf o.payload).toNat ∧ (addressOf o.payload).toNat ≤ 254 ∧
            s.control.group = some (addressOf o.payload)) ∨
          (addressOf o.payload).toNat = 255 := by
    unfold addressMatches
    split
    · next hlow =>
      rw [decide_eq_true_iff, ← BitVec.toNat_inj, hset]
      omega
    · next hlow =>
      split
      · next hall => simp [hall]
      · next hgroup =>
        have hlarge : 64 ≤ (addressOf o.payload).toNat := by omega
        have hsmall : (addressOf o.payload).toNat ≤ 254 := by omega
        rw [decide_eq_true_iff]
        simp only [hlow, false_and, hlarge, hsmall, true_and, hgroup, or_false, false_or]
  rw [not_or, Nat.not_lt, Bool.not_eq_false, hmatch]
  rfl

/-- A block not addressed to the part is counted (R123). -/
theorem judgeOffer_of_not_addressed {o : Offer} {s : State} (h : ¬ addressed o s) :
    judgeOffer o s = countControl (fun c => { c with notMine := bump c.notMine }) s := by
  rw [judgeOffer, if_pos (not_not.mp (fun hnot => h ((addressed_iff).mpr hnot)))]

/-- A block whose key is held (R124). -/
theorem judgeOffer_of_found {o : Offer} {s : State} {x : FirstCopy} (h : addressed o s)
    (hx : findKey (wordAt o.payload 1) o.seq s.control = some x) :
    judgeOffer o s = meetFirstCopy x o.port o.payload s := by
  rw [judgeOffer, if_neg ((addressed_iff).mp h), hx]

/-- A new block (R126). -/
theorem judgeOffer_of_new {o : Offer} {s : State} (h : addressed o s)
    (hnew : findKey (wordAt o.payload 1) o.seq s.control = none) : judgeOffer o s = admitControl o s := by
  rw [judgeOffer, if_neg ((addressed_iff).mp h), hnew]

/-- The intake does not hold a key (R122). -/
theorem intakeMatch_eq_none {origin seq : Word} {c : Control} (h : ∀ e ∈ c.intake, (e.origin, e.seq) ≠ (origin, seq)) :
    intakeMatch origin seq c = none := by
  rw [intakeMatch, Option.map_eq_none_iff, List.find?_eq_none]
  intro e he hkey
  rw [Bool.and_eq_true, beq_iff_eq, beq_iff_eq] at hkey
  exact h e he (Prod.ext hkey.1 hkey.2)

/-- The reply cache does not hold a key (R133). -/
theorem cacheMatch_eq_none {origin seq : Word} {c : Control} (h : ∀ e ∈ c.cache, (e.origin, e.seq) ≠ (origin, seq)) :
    cacheMatch origin seq c = none := by
  rw [cacheMatch, Option.map_eq_none_iff, List.find?_eq_none]
  intro e he hkey
  rw [Bool.and_eq_true, beq_iff_eq, beq_iff_eq] at hkey
  exact h e he (Prod.ext hkey.1 hkey.2)

/-- In a list of different keys an element is found by its key. -/
theorem find?_of_nodup_map {α β : Type} (key : α → β) (p : α → Bool) {l : List α} {e : α} (hnodup : (l.map key).Nodup)
    (he : e ∈ l) (hp : ∀ x, p x = true ↔ key x = key e) : l.find? p = some e := by
  induction l with
  | nil => exact absurd he List.not_mem_nil
  | cons x l ih =>
    rw [List.map_cons, List.nodup_cons] at hnodup
    obtain ⟨hx, hl⟩ := hnodup
    rcases List.mem_cons.mp he with rfl | he
    · exact List.find?_cons_of_pos ((hp _).mpr rfl)
    · have hne : ¬ p x = true := fun h => hx ((hp x).mp h ▸ List.mem_map_of_mem he)
      rw [List.find?_cons_of_neg hne]
      exact ih hl he

/-- The first copy of a key the intake holds (R122, R124). -/
theorem findKey_of_mem_intake {c : Control} {e : IntakeEntry} {origin seq : Word} (hnodup : (c.intake.map intakeKey).Nodup)
    (he : e ∈ c.intake) (hkey : (e.origin, e.seq) = (origin, seq)) :
    findKey origin seq c = some { port := e.port, sweep := e.sweep, response := none } := by
  have hfind : c.intake.find? (fun x => x.origin == origin && x.seq == seq) = some e := by
    refine find?_of_nodup_map intakeKey _ hnodup he fun x => ?_
    rw [Bool.and_eq_true, beq_iff_eq, beq_iff_eq, intakeKey, intakeKey, hkey, Prod.mk.injEq]
  rw [findKey, intakeMatch, hfind]
  rfl

/-- The first copy of a key the reply cache alone holds (R124, R133). -/
theorem findKey_of_mem_cache {c : Control} {e : CacheEntry} {origin seq : Word}
    (hnodup : (c.intake.map intakeKey ++ c.cache.map cacheKey).Nodup) (he : e ∈ c.cache)
    (hkey : (e.origin, e.seq) = (origin, seq)) :
    findKey origin seq c = some { port := e.port, sweep := e.sweep, response := some e.response } := by
  obtain ⟨-, hcache, hdisjoint⟩ := List.nodup_append'.mp hnodup
  have hintake : intakeMatch origin seq c = none := intakeMatch_eq_none fun x hx heq =>
    hdisjoint (List.mem_map_of_mem (f := intakeKey) hx) (by
      rw [show intakeKey x = cacheKey e from heq.trans hkey.symm]
      exact List.mem_map_of_mem he)
  have hfind : c.cache.find? (fun x => x.origin == origin && x.seq == seq) = some e := by
    refine find?_of_nodup_map cacheKey _ hcache he fun x => ?_
    rw [Bool.and_eq_true, beq_iff_eq, beq_iff_eq, cacheKey, cacheKey, hkey, Prod.mk.injEq]
  rw [findKey, hintake, cacheMatch, hfind]
  rfl

/-- Settles O45, by the turn of the offer, its address and the room of the intake. -/
theorem offersNotMineAndNew : Obligations.OffersNotMineAndNew := by
  refine ⟨fun s o hrestart => congrArg Host.Outcome.next (serveOffer_of_inFullRestart hrestart o), ?_⟩
  intro s u o htaken i origin k
  obtain ⟨hserve, offers, rfl⟩ := serveOffer_of_offerTaken htaken
  refine ⟨fun hother => congrArg Host.Outcome.next (hserve.trans (judgeOffer_of_not_addressed hother)),
    fun hmine hintake hcache => ?_⟩
  have hnew : findKey origin o.seq s.control = none := by
    rw [findKey, intakeMatch_eq_none hintake, cacheMatch_eq_none hcache]
  have hadmit := hserve.trans (judgeOffer_of_new hmine hnew)
  refine ⟨fun hroom => congrArg Host.Outcome.next (hadmit.trans (if_pos hroom)), fun hfull => ?_⟩
  exact congrArg Host.Outcome.next (hadmit.trans ((if_neg (Nat.not_lt.mpr hfull)).trans (intakeOverrun_eq _)))

/-- R124: a copy by the other port in the same sweep or the next. -/
theorem isTwin_iff {x : FirstCopy} {p : PortId} {sweep : Word} :
    isTwin x p sweep = true ↔ p ≠ x.port ∧ (sweep - x.sweep = 0 ∨ sweep - x.sweep = 1) := by
  have hsmall (w : Word) : w.toNat ≤ 1 ↔ w = 0 ∨ w = 1 := by
    rw [← BitVec.toNat_inj, ← BitVec.toNat_inj]
    change w.toNat ≤ 1 ↔ w.toNat = 0 ∨ w.toNat = 1
    omega
  rw [isTwin, Bool.and_eq_true, decide_eq_true_iff, decide_eq_true_iff, hsmall]

/-- A twin is counted (R124). -/
theorem meetFirstCopy_of_twin {x : FirstCopy} {p : PortId} {s : State}
    (h : p ≠ x.port ∧ (s.classifier.sweepNumber - x.sweep = 0 ∨ s.classifier.sweepNumber - x.sweep = 1))
    (payload : List Word) :
    meetFirstCopy x p payload s = countControl (fun c => { c with twins := bump c.twins }) s := by
  rw [meetFirstCopy, if_pos ((isTwin_iff).mpr h)]

/-- A repeat of a block of the intake is no twin (R124). -/
theorem meetFirstCopy_of_repeat {x : FirstCopy} {p : PortId} {s : State}
    (h : ¬ (p ≠ x.port ∧ (s.classifier.sweepNumber - x.sweep = 0 ∨ s.classifier.sweepNumber - x.sweep = 1)))
    (hx : x.response = none) (payload : List Word) :
    meetFirstCopy x p payload s = countControl (fun c => { c with retriesDropped := bump c.retriesDropped }) s := by
  rw [meetFirstCopy, if_neg fun htwin => h ((isTwin_iff).mp htwin), hx]

/-- A retry of a finished block is no twin (R124, R133). -/
theorem meetFirstCopy_of_retry {x : FirstCopy} {p : PortId} {s : State}
    (h : ¬ (p ≠ x.port ∧ (s.classifier.sweepNumber - x.sweep = 0 ∨ s.classifier.sweepNumber - x.sweep = 1)))
    {r : List Word} (hx : x.response = some r) (payload : List Word) :
    meetFirstCopy x p payload s = answerRetry (replyWanted payload) r s := by
  rw [meetFirstCopy, if_neg fun htwin => h ((isTwin_iff).mp htwin), hx]

/-- A response sent again: RESENT and, while the time base is UNSET, TIME_UNSET set in its P0 (R133, R182). -/
theorem stampUnset_markResent (s : State) (response : List Word) :
    stampUnset s.time.isSet (markResent response) =
      match response with
      | [] => []
      | p0 :: more => (p0 ||| 0x4000 ||| unsetBit s) :: more := by
  rw [unsetBit]
  cases s.time.isSet <;> cases response <;> simp [stampUnset, markResent, orFirst]

/-- A retry answered from the reply cache (R133). -/
theorem pushReport_markResent (response : List Word) (s : State) :
    pushReport .response (markResent response) s =
      { s with
        reports :=
          reportAdded .response
            (match response with
              | [] => []
              | p0 :: more => (p0 ||| 0x4000 ||| unsetBit s) :: more)
            s } := by
  rw [pushReport_added, stampUnset_markResent]

/-- The occupancy of R179, in the words of the statements. -/
theorem occupancy_eq (r : Reports) : occupancy r = r.queue.length + if r.reserved then 1 else 0 := by
  rw [occupancy]
  cases r.reserved <;> rfl

/-- Settles O46: a key is held once, so the copy found is the one the statement names. -/
theorem offersRepeated : Obligations.OffersRepeated := by
  intro s u o htaken hmine hok i key k twin counted
  obtain ⟨-, -, hnodup⟩ := hok
  obtain ⟨hserve, offers, rfl⟩ := serveOffer_of_offerTaken htaken
  refine ⟨fun e he hkey => ?_, fun e he hkey => ?_⟩
  · have hmeet := hserve.trans
      (judgeOffer_of_found hmine (findKey_of_mem_intake (List.nodup_append'.mp hnodup).1 he hkey))
    exact ⟨fun htwin => congrArg Host.Outcome.next (hmeet.trans (meetFirstCopy_of_twin htwin _)),
      fun hnot => congrArg Host.Outcome.next (hmeet.trans (meetFirstCopy_of_repeat hnot rfl _))⟩
  · intro wanted held
    have hmeet := hserve.trans (judgeOffer_of_found hmine (findKey_of_mem_cache hnodup he hkey))
    have hoccupied : occupancy s.reports = held := occupancy_eq s.reports
    have hretry (hnot : ¬ twin e.port e.sweep) := hmeet.trans (meetFirstCopy_of_retry hnot rfl _)
    refine ⟨fun htwin => congrArg Host.Outcome.next (hmeet.trans (meetFirstCopy_of_twin htwin _)),
      fun hnot hunwanted => congrArg Host.Outcome.next ((hretry hnot).trans (if_pos hunwanted)),
      fun hnot hwanted hfull => ?_, fun hnot hwanted hroom => ?_⟩
    all_goals
      have hyes : ¬ replyWanted o.payload = false := (Bool.not_eq_false _).mpr hwanted
      refine congrArg Host.Outcome.next ((hretry hnot).trans ((if_neg hyes).trans ?_))
    · exact if_neg (hoccupied ▸ Nat.not_lt.mpr hfull)
    · exact (if_pos (hoccupied ▸ hroom)).trans (pushReport_markResent _ _)

/-! ## Execution (R127, R128, R132) -/

/-- The finish of a block by the number its response gives the status (R6, R132). -/
theorem finishBlock_of_code {b : IntakeEntry} {rest : List IntakeEntry} {s : State} (h : s.control.intake = b :: rest)
    {status : BlockStatus} {code : Nat}
    (hcode : (status, code) ∈ [(BlockStatus.complete, 0), (.stopped, 1), (.malformed, 2)]) (es : List ResultEntry) :
    finishBlock status es s = finishedBy b rest (responseOf s.control.unitAddr b code es) s := by
  rw [finishBlock_eq h, responsePayload_eq]
  cases status <;> simp_all

/-- The reservation of a starting block (R127, R179). -/
theorem reserveFor_eq (b : IntakeEntry) (s : State) :
    reserveFor b s =
      { s with reports := { s.reports with reserved := s.reports.reserved || replyWanted b.payload } } := by
  rw [reserveFor]
  cases hwanted : replyWanted b.payload with
  | false => rw [if_neg Bool.false_ne_true, Bool.or_false]
  | true =>
    rw [if_pos rfl, Bool.or_true]
    rfl

/-- R127, in the words of the statements. -/
theorem mayStart_iff {s : State} :
    mayStart s = true ↔
      s.control.execution = none ∧ s.control.restart = none ∧ s.control.inquiry = none ∧ s.control.intake ≠ [] ∧
        s.reports.queue.length < 16 := by
  rw [mayStart, Bool.and_eq_true, Bool.and_eq_true, Bool.and_eq_true, Bool.and_eq_true, and_assoc, and_assoc, and_assoc]
  exact and_congr decide_eq_true_iff (and_congr decide_eq_true_iff (and_congr decide_eq_true_iff
    (and_congr decide_eq_true_iff decide_eq_true_iff)))

/-- A block that may not start leaves all as it is (R127). -/
theorem startHead_of_not {s : State} (h : ¬ mayStart s = true) : startHead s = s := by
  rw [startHead]
  cases s.control.intake with
  | nil => rfl
  | cons b rest => exact if_neg h

/-- Settles O47, by the execution in progress. -/
theorem executionStarts : Obligations.ExecutionStarts := by
  intro s
  refine ⟨fun hidle => congrArg Host.Outcome.next ?_, fun b rest hintake => ⟨fun x status code hx hended hcode => ?_,
    fun hnone hrestart hinquiry hroom => ?_⟩⟩
  · rw [executionStart]
    rcases hidle with ⟨hnone, hbusy⟩ | ⟨x, hx, hrunning⟩
    · rw [hnone]
      refine startHead_of_not fun hmay => ?_
      obtain ⟨-, hrestart, hinquiry, hintake, hroom⟩ := (mayStart_iff).mp hmay
      rcases hbusy with h | h | h | h
      · exact h hrestart
      · exact h hinquiry
      · exact hintake h
      · omega
    · rw [hx]
      simp only [hrunning]
  · refine congrArg Host.Outcome.next ?_
    rw [executionStart, hx]
    simp only [hended]
    exact finishBlock_of_code hintake hcode _
  · intro reserving
    have hmay : mayStart s = true :=
      (mayStart_iff).mpr ⟨hnone, hrestart, hinquiry, hintake ▸ List.cons_ne_nil _ _, hroom⟩
    have hstart : executionStart s = startBlock b s := by
      rw [executionStart, hnone]
      simp only [startHead, hintake]
      exact if_pos hmay
    have hreserve : reserveFor b s = reserving := reserveFor_eq b s
    refine ⟨fun es hes => congrArg Host.Outcome.next ?_, fun hbad => congrArg Host.Outcome.next ?_⟩
    · rw [hstart, startBlock, hes, hreserve]
      rfl
    · rw [hstart, startBlock, hbad, hreserve]
      exact endBlock_eq (s := reserving) hintake _ _

/-! ## Answers (R130, R132) -/

/-- The three statuses of success (R130). -/
theorem failed_iff {st : Status} : failed st = true ↔ st ∉ [Status.ok, .queued, .scheduled] := by
  cases st <;> decide

/-- Settles O48, by the failure, CONTINUE and the directives left. -/
theorem answersMakeEntries : Obligations.AnswersMakeEntries := by
  refine ⟨fun d st results s => rfl, fun s r => ?_⟩
  intro received isFailure
  refine ⟨fun hnone => ?_, ?_⟩
  · rw [conclude, hnone]
    rfl
  · intro todo e entries b rest hx hintake continues
    have hcontinues : blockContinues s = continues := by
      rw [blockContinues, hintake]
      rfl
    have hend (status : BlockStatus) (es : List ResultEntry) :
        endBlock status es received = blockEnded b rest status es received :=
      endBlock_eq (s := received) hintake status es
    refine ⟨fun hfailed hstop => ?_, fun hgoes => ?_⟩
    · have hstops : (failed r.status && !blockContinues s) = true := by
        rw [hcontinues, hstop, (failed_iff).mpr hfailed]
        rfl
      rw [conclude, hx]
      exact (if_pos hstops).trans (hend _ _)
    · have hruns : ¬ (failed r.status && !blockContinues s) = true := by
        rw [hcontinues, Bool.and_eq_true, failed_iff]
        rintro ⟨hfailed, hstop⟩
        rcases hgoes with hsuccess | hcontinue
        · exact hsuccess hfailed
        · rw [hcontinue] at hstop
          exact Bool.false_ne_true hstop
      refine ⟨fun hmore => ?_, fun hlast => ?_⟩
      · rw [conclude, hx]
        refine (if_neg hruns).trans ?_
        cases todo with
        | nil => exact absurd rfl hmore
        | cons e' todo => rfl
      · subst hlast
        rw [conclude, hx]
        exact (if_neg hruns).trans (hend _ _)

end Sys2Proof.ControlUnit
end


section
/-! Lane schedulers: what a due slot event gives (R83), one lemma for the slot event and one for each kind of presentation. -/

namespace Sys2Proof.Slots

open Sys2Proof.Machine Sys2Proof.Safety Sys2Proof.Elementary

/-! ## The command stage (R109) -/

/-- The states that take commands and units (R98, R109). -/
theorem admitsUnits_iff {st : LaneState} :
    admitsUnits st = true ↔ st ∈ [LaneState.running, .held, .stepping, .seeking, .cueing] := by
  cases st <;> decide

/-- The command stage, in the words of the statements. -/
theorem takeCommand_eq (l : LaneId) (x : Lane) : takeCommand l x = (commanded x, (commandNotice l x).map .request) := by
  by_cases hadmits : x.state ∈ [LaneState.running, .held, .stepping, .seeking, .cueing]
  · cases hcommands : x.commands with
    | nil =>
      have hsame : commanded x = x := by rw [commanded, if_pos hadmits, hcommands]
      rw [takeCommand_nil hcommands, commandNotice, hsame, if_pos rfl, List.map_nil]
    | cons c rest =>
      have htaken : commanded x =
          { x with commands := rest, state := commandState c, stopMode := commandStopMode x.stopMode c } := by
        rw [commanded, if_pos hadmits, hcommands]
        cases c <;> rfl
      have hnotice : stateNotice l x.state (commandState c) = (commandNotice l x).map .request := by
        rw [stateNotice, commandNotice, htaken]
        by_cases hstate : x.state = commandState c
        · rw [if_pos hstate, if_pos hstate.symm, List.map_nil]
        · rw [if_neg hstate, if_neg (Ne.symm hstate)]
          rfl
      rw [takeCommand_cons hcommands ((admitsUnits_iff).mpr hadmits), htaken, hnotice]
  · have hsame : commanded x = x := by rw [commanded, if_neg hadmits]
    have htaken : takeCommand l x = (x, []) := by
      unfold takeCommand
      split
      · rfl
      · exact if_neg fun h => hadmits ((admitsUnits_iff).mp h)
    rw [htaken, commandNotice, hsame, if_pos rfl, List.map_nil]

/-- What the command stage leaves unchanged (R109). -/
theorem commanded_eq (x : Lane) :
    commanded x =
      { x with commands := (commanded x).commands, state := (commanded x).state, stopMode := (commanded x).stopMode } := by
  have h := takeCommand_lane 0 x
  rwa [takeCommand_eq] at h

@[simp] theorem commanded_config (x : Lane) : (commanded x).config = x.config := by rw [commanded_eq]
@[simp] theorem commanded_remainder (x : Lane) : (commanded x).remainder = x.remainder := by rw [commanded_eq]
@[simp] theorem commanded_counters (x : Lane) : (commanded x).counters = x.counters := by rw [commanded_eq]
@[simp] theorem commanded_nextSlot (x : Lane) : (commanded x).nextSlot = x.nextSlot := by rw [commanded_eq]
@[simp] theorem commanded_frame (x : Lane) : (commanded x).frame = x.frame := by rw [commanded_eq]
@[simp] theorem commanded_overrun (x : Lane) : (commanded x).overrun = x.overrun := by rw [commanded_eq]

/-! ## The slot event (R83) -/

/-- A due slot event is served (R65, R83). -/
theorem exec_slotEvent {s : State} {l : LaneId} (h : slotIsDue s l) : exec (.slotEvent l) s = .next (serveSlot l s) := by
  have hdue : slotDue s l = true := by
    rw [slotDue, Bool.and_eq_true, decide_eq_true_iff]
    exact h
  exact congrArg Host.Outcome.next (if_pos hdue)

/-- The command and presentation stages, in the words of the statements. -/
theorem commandAndPresent_eq (l : LaneId) (x : Lane) :
    commandAndPresent l x =
      { present l x.nextSlot (commanded x) with
        effects := (commandNotice l x).map .request ++ (present l x.nextSlot (commanded x)).effects } := by
  rw [commandAndPresent, takeCommand_eq]

/-- The store after the frame stage: a frame's block has one holder more (R51, R88). -/
theorem frameStage_store (l : LaneId) (kind : FrameKind) (slot : Tick) (s : State) :
    (frameStage l kind slot s).store =
      match (laneOf s l).frame with
      | some _ => s.store
      | none =>
        match (newFrame kind slot (laneOf s l) (heldLength s (laneOf s l))).block with
        | none => s.store
        | some ref => { s.store with records := mapHolders ref (· + 1) s.store.records } := by
  unfold frameStage
  cases (laneOf s l).frame with
  | some f =>
    unfold overrunSlot
    dsimp only
    split <;> rfl
  | none =>
    unfold beginFrame
    dsimp only
    split
    · next ref href => rw [href]; rfl
    · next href => rw [href]; rfl

/-- The part after the presentation stage, but for the lane: the requests and releases of the first two stages carried out (R83). -/
def presentedWith (s : State) (l : LaneId) (released : List Entry) (notices : List Notice) : State :=
  requestAll notices (releaseEntries released { s with requests := s.requests ++ commandNotice l (laneOf s l) })

/-- A due slot event whose presentation is known (R83). -/
theorem slotGives_of_present {s : State} {l : LaneId} {y : Lane} {released : List Entry} {notices : List Notice}
    {kind : FrameKind} {frame : Frame → Prop} (hdue : slotIsDue s l)
    (hpresent : present l (commanded (laneOf s l)).nextSlot (commanded (laneOf s l)) =
      { lane := y, effects := releasesOf released ++ notices.map .request, kind := kind })
    (hframe : ∀ n, frame (newFrame kind (laneOf s l).nextSlot y n)) : slotGives s l y released notices frame := by
  rw [commanded_nextSlot] at hpresent
  have hboth : commandAndPresent l (laneOf s l) =
      { lane := y
        effects := (commandNotice l (laneOf s l)).map .request ++ (releasesOf released ++ notices.map .request)
        kind := kind } := by
    rw [commandAndPresent_eq, hpresent]
  have hstages : applyEffects ((commandNotice l (laneOf s l)).map .request ++ (releasesOf released ++ notices.map .request))
      (setLane l y s) = setLane l y (presentedWith s l released notices) := by
    rw [applyEffects_setLane, applyEffects_append, applyEffects_append, applyEffects_requestsOnly, applyEffects_releasesOf,
      applyEffects_requestsOnly]
    rfl
  have hyframe : y.frame = (laneOf s l).frame := by
    obtain ⟨-, -, -, -, -, -, -, -, hkept, -⟩ := present_samePast l (laneOf s l).nextSlot (commanded (laneOf s l))
    rw [hpresent] at hkept
    exact hkept.trans (commanded_frame _)
  have hlane := laneOf_serveSlot l s
  have hrequests := serveSlot_requests l s
  rw [hboth, hstages] at hlane hrequests
  have hstore : (serveSlot l s).store =
      (frameStage l kind (laneOf s l).nextSlot (setLane l y (presentedWith s l released notices))).store := by
    rw [serveSlot, hboth, hstages]
    rfl
  rw [frameStage_store, laneOf_setLane_same, hyframe] at hstore
  refine ⟨serveSlot l s, exec_slotEvent hdue, ?_, hrequests, fun hbusy => ?_, fun hquiet => ?_⟩
  · rw [hlane]
    cases (laneOf s l).frame <;> rfl
  · rw [hstore]
    cases hf : (laneOf s l).frame with
    | none => exact absurd hf hbusy
    | some f => rfl
  · rw [hquiet] at hlane hstore
    refine ⟨_, by rw [hlane]; rfl, hframe _, fun ref href => ?_, hstore⟩
    obtain ⟨e, hheld, hblock, hlength⟩ := newFrame_block href
    rw [hlength, heldLength, hheld, ← hblock]
    rfl

/-! ## Frames (R8, R86) -/

/-- The kind of the frame that shows a lane's unit again, or fill (R86). -/
def againKind (x : Lane) : FrameKind :=
  match x.held with
  | none => .fillFrame
  | some _ => .repeatFrame

/-- REPEAT or FILL, in the words of the statements (R86). -/
theorem repeatOrFill_eq (x : Lane) :
    repeatOrFill x = { lane := { x with counters := shownAgain x }, effects := [], kind := againKind x } := by
  unfold repeatOrFill shownAgain againKind
  cases x.held <;> rfl

/-- The frame of a lane that shows its unit again, or fill (R8). -/
theorem againFrame_newFrame {x y : Lane} (hheld : y.held = x.held) (hconfig : y.config = x.config) (slot : Tick) (n : Nat) :
    againFrame x (newFrame (againKind x) slot y n) := by
  unfold againFrame againKind
  cases h : x.held with
  | none => exact ⟨rfl, rfl, rfl, rfl, rfl, rfl, rfl, by rw [← hconfig]; rfl, by rw [← hconfig]; rfl⟩
  | some u =>
    rw [h] at hheld
    unfold newFrame
    rw [hheld]
    exact ⟨rfl, rfl, rfl, rfl, rfl, rfl, rfl⟩

/-- The frame of a unit's first presentation (R8). -/
theorem unitFrameOf_newFrame {e : Entry} {y : Lane} (hheld : y.held = some e) (slot : Tick) (n : Nat) :
    unitFrameOf e (newFrame .unitFrame slot y n) := by
  unfold newFrame
  rw [hheld]
  exact ⟨rfl, rfl, rfl, rfl, rfl, rfl, rfl⟩

/-! ## The eligible entries (R84) -/

/-- The eligible entries and those beyond them, in the words of the statements. -/
theorem eligible_of_split {slot : Tick} {queue ahead behind : List Entry} (hqueue : queue = ahead ++ behind)
    (hahead : ∀ e ∈ ahead, atOrBefore e.release slot = true)
    (hbehind : ∀ e ∈ behind.head?.toList, ¬ atOrBefore e.release slot = true) :
    eligible slot queue = ahead ∧ beyond slot queue = behind := by
  subst hqueue
  rw [eligible, beyond, List.takeWhile_append_of_pos hahead, List.dropWhile_append_of_pos hahead]
  cases behind with
  | nil => exact ⟨List.append_nil _, rfl⟩
  | cons e more =>
    have he : ¬ atOrBefore e.release slot = true := hbehind e (by simp)
    rw [List.takeWhile_cons_of_neg (p := fun a : Entry => atOrBefore a.release slot) he,
      List.dropWhile_cons_of_neg (p := fun a : Entry => atOrBefore a.release slot) he]
    exact ⟨List.append_nil _, rfl⟩

/-- Releases of entries one list after another (R52). -/
theorem releasesOf_append (as bs : List Entry) : releasesOf (as ++ bs) = releasesOf as ++ releasesOf bs := List.map_append

/-- A selection, in the words of the statements (R85, R111). -/
theorem selectEntry_eq (e : Entry) (passed left : List Entry) (x : Lane) :
    selectEntry e passed left x =
      { lane := selecting e left passed.length x, effects := releasesOf (passed ++ x.held.toList) ++ ([] : List Notice).map .request
        kind := .unitFrame } := by
  rw [releasesOf_append]
  simp only [selectEntry, selecting, List.map_nil, List.append_nil]

/-! ## Presentation by time (R85, R86, R87) -/

/-- The last entry of the eligible entries is selected (R85). -/
theorem presentByTime_of_eligible {slot : Tick} {x : Lane} {skipped behind : List Entry} {e : Entry}
    (heligible : eligible slot x.queue = skipped ++ [e]) (hbeyond : beyond slot x.queue = behind) (l : LaneId) :
    presentByTime l slot x = selectEntry e skipped behind x := by
  rw [presentByTime, heligible, hbeyond, List.getLast?_concat, List.dropLast_concat]

/-- Without an eligible entry the unit repeats or fill is sent, with LANE_UNDERRUN (R86, R87). -/
theorem presentByTime_of_none {slot : Tick} {x : Lane} (heligible : eligible slot x.queue = []) (l : LaneId) :
    presentByTime l slot x =
      { lane := { x with counters := shownAgain x, underrun := true }
        effects := releasesOf [] ++ (if x.underrun then [] else [Notice.laneUnderrun l]).map .request, kind := againKind x } := by
  rw [presentByTime, heligible, repeatOrFill_eq]
  simp only [List.getLast?_nil, markUnderrun]
  cases h : x.underrun with
  | true =>
    obtain ⟨⟩ := x
    cases h
    rfl
  | false => rfl

end Sys2Proof.Slots
end


section
/-! Presentation in every transport state (O20, O21, O22, O23). -/

namespace Sys2Proof.Slots

open Sys2Proof.Machine Sys2Proof.Safety Sys2Proof.Elementary

/-! ## Slot events by the kind of their presentation -/

/-- A slot whose presentation selects an entry (R85, R111). -/
theorem slotGives_of_selected {s : State} {l : LaneId} {e : Entry} {passed left : List Entry} (hdue : slotIsDue s l)
    (hpresent : present l (commanded (laneOf s l)).nextSlot (commanded (laneOf s l)) =
      selectEntry e passed left (commanded (laneOf s l))) :
    slotGives s l (selecting e left passed.length (commanded (laneOf s l)))
      (passed ++ (commanded (laneOf s l)).held.toList) [] (unitFrameOf e) :=
  slotGives_of_present hdue (hpresent.trans (selectEntry_eq _ _ _ _)) fun n => unitFrameOf_newFrame rfl _ n

/-- A selection followed by a change of state (R99, R111, R113, R114, R115). -/
theorem thenState_selectEntry (l : LaneId) {new : LaneState} {x : Lane} (hnew : x.state ≠ new) (e : Entry)
    (passed left : List Entry) :
    thenState l new (selectEntry e passed left x) =
      { lane := { selecting e left passed.length x with state := new }
        effects := releasesOf (passed ++ x.held.toList) ++ [Notice.laneState l x.state new].map .request
        kind := .unitFrame } := by
  have hnotice : stateNotice l x.state new = [Notice.laneState l x.state new].map .request := if_neg hnew
  rw [selectEntry_eq, ← hnotice]
  simp only [thenState, selecting, List.map_nil, List.append_nil]

/-- A slot whose presentation selects an entry and leaves the state (R99, R111). -/
theorem slotGives_of_selected_then {s : State} {l : LaneId} {e : Entry} {passed left : List Entry} {new : LaneState}
    (hdue : slotIsDue s l) (hnew : (commanded (laneOf s l)).state ≠ new)
    (hpresent : present l (commanded (laneOf s l)).nextSlot (commanded (laneOf s l)) =
      thenState l new (selectEntry e passed left (commanded (laneOf s l)))) :
    slotGives s l { selecting e left passed.length (commanded (laneOf s l)) with state := new }
      (passed ++ (commanded (laneOf s l)).held.toList) [.laneState l (commanded (laneOf s l)).state new] (unitFrameOf e) :=
  slotGives_of_present hdue (hpresent.trans (thenState_selectEntry l hnew _ _ _)) fun n => unitFrameOf_newFrame rfl _ n

/-- A slot that shows the unit again, or fill, and changes nothing else (R86, R113, R118). -/
theorem slotGives_of_repeatOrFill {s : State} {l : LaneId} (hdue : slotIsDue s l)
    (hpresent : present l (commanded (laneOf s l)).nextSlot (commanded (laneOf s l)) =
      repeatOrFill (commanded (laneOf s l))) :
    slotGives s l { commanded (laneOf s l) with counters := shownAgain (commanded (laneOf s l)) } [] []
      (againFrame (commanded (laneOf s l))) :=
  slotGives_of_present hdue (hpresent.trans (repeatOrFill_eq _)) fun n => againFrame_newFrame rfl rfl _ n

/-- A slot that skips entries and keeps the unit (R112, R115). -/
theorem slotGives_of_skipEntries {s : State} {l : LaneId} {skipped left : List Entry} (hdue : slotIsDue s l)
    (hpresent : present l (commanded (laneOf s l)).nextSlot (commanded (laneOf s l)) =
      skipEntries skipped left (commanded (laneOf s l))) :
    slotGives s l
      { commanded (laneOf s l) with
        queue := left
        counters :=
          { shownAgain (commanded (laneOf s l)) with
            skipped := satAdd (commanded (laneOf s l)).counters.skipped skipped.length } }
      skipped [] (againFrame (commanded (laneOf s l))) := by
  generalize hx : commanded (laneOf s l) = x at *
  have hskip : skipEntries skipped left x =
      { lane :=
          { x with
            queue := left
            counters := { shownAgain x with skipped := satAdd x.counters.skipped skipped.length } }
        effects := releasesOf skipped ++ ([] : List Notice).map .request, kind := againKind x } := by
    rw [skipEntries, repeatOrFill_eq, List.map_nil, List.append_nil]
    unfold shownAgain againKind
    cases h : x.held <;> rfl
  subst hx
  exact slotGives_of_present hdue (hpresent.trans hskip) fun n => againFrame_newFrame rfl rfl _ n

/-! ## Presentation by time -/

/-- The states that present by time: RUNNING, SEEKING without an eligible marker, DRAINING with a queue (R85, R114, R116). -/
theorem present_byTime {l : LaneId} {slot : Tick} {x : Lane}
    (h : x.state = .running ∨ (x.state = .seeking ∧ ∀ e ∈ eligible slot x.queue, e.marker = false) ∨
      (x.state = .draining ∧ x.queue ≠ [])) : present l slot x = presentByTime l slot x := by
  unfold present
  rcases h with hstate | ⟨hstate, hmarker⟩ | ⟨hstate, hqueue⟩
  · rw [hstate]
  · have hnone : findMarker slot x.queue = none := by
      have hdrop : ((eligible slot x.queue).dropWhile fun e => !e.marker) = [] :=
        List.dropWhile_eq_nil_iff.mpr fun e he => by rw [hmarker e he]; rfl
      rw [findMarker, hdrop]
    rw [hstate]
    simp only [presentSeeking, hnone]
  · rw [hstate]
    cases hq : x.queue with
    | nil => exact absurd hq hqueue
    | cons e rest => simp only [presentDraining, hq]

/-- Settles O20, by whether an entry is eligible. -/
theorem slotPresentsByTime : Obligations.SlotPresentsByTime := by
  intro s l ahead behind hdue x hqueue hahead hbehind hstate
  obtain ⟨heligible, hbeyond⟩ := eligible_of_split hqueue hahead hbehind
  have hpresent : present l x.nextSlot x = presentByTime l x.nextSlot x := present_byTime (heligible ▸ hstate)
  refine ⟨fun skipped e hlast => ?_, fun hnone => ?_⟩
  · rw [hlast] at heligible
    exact slotGives_of_selected hdue (hpresent.trans (presentByTime_of_eligible heligible hbeyond l))
  · rw [hnone] at heligible
    exact slotGives_of_present hdue (hpresent.trans (presentByTime_of_none heligible l))
      fun n => againFrame_newFrame rfl rfl _ n

/-! ## HELD and STEPPING -/

/-- The filters of R111, in the words of the statements. -/
theorem selectOffTime_eq (ahead : List Entry) (e : Entry) (behind : List Entry) (x : Lane) :
    selectOffTime ahead e behind x =
      selectEntry e (ahead ++ behind.filter fun z => z.release = e.release)
        (behind.filter fun z => z.release ≠ e.release) x := by
  have hgone : (behind.filter fun z => z.release == e.release) = behind.filter fun z => z.release = e.release :=
    List.filter_congr fun z _ => beq_eq_decide _ _
  have hleft : (behind.filter fun z => z.release != e.release) = behind.filter fun z => z.release ≠ e.release :=
    List.filter_congr fun z _ => by simp [bne, beq_eq_decide]
  rw [selectOffTime, hgone, hleft]

/-- Settles O21, by the two states. -/
theorem slotInHeldAndStepping : Obligations.SlotInHeldAndStepping := by
  intro s l hdue x
  refine ⟨fun hheld ahead behind hqueue hahead hbehind => ?_, fun hstepping hqueue => ?_,
    fun hstepping e rest hqueue => ?_⟩
  · obtain ⟨heligible, hbeyond⟩ := eligible_of_split hqueue hahead hbehind
    have hpresent : present l x.nextSlot x = skipEntries ahead.dropLast (ahead.getLast?.toList ++ behind) x := by
      rw [present, hheld]
      simp only [presentHeld, heligible, hbeyond]
    rw [← List.length_dropLast]
    exact slotGives_of_skipEntries hdue hpresent
  · have hpresent : present l x.nextSlot x = repeatOrFill x := by
      rw [present, hstepping]
      simp only [presentStepping, hqueue]
    exact slotGives_of_repeatOrFill hdue hpresent
  · intro gone
    have hpresent : present l x.nextSlot x =
        thenState l .held (selectEntry e gone (rest.filter fun z => z.release ≠ e.release) x) := by
      rw [present, hstepping]
      simp only [presentStepping, hqueue, selectOffTime_eq, List.nil_append]
      rfl
    have hgives := slotGives_of_selected_then hdue (hstepping.trans_ne (by decide)) hpresent
    rwa [show (commanded (laneOf s l)).state = .stepping from hstepping] at hgives

/-! ## SEEKING and CUEING -/

/-- The first marked entry of the eligible ones (R114, R115). -/
theorem findMarker_of_marked {slot : Tick} {queue ahead rest : List Entry} {e : Entry} (hqueue : queue = ahead ++ [e] ++ rest)
    (hahead : ∀ z ∈ ahead, atOrBefore z.release slot = true ∧ z.marker = false) (he : atOrBefore e.release slot = true)
    (hmarker : e.marker = true) : findMarker slot queue = some (ahead, e, rest) := by
  have hunmarked : ∀ z ∈ ahead, (!z.marker) = true := fun z hz => by rw [(hahead z hz).2]; rfl
  have hstop : ¬ (!e.marker) = true := by rw [hmarker]; exact Bool.false_ne_true
  have hprefix : eligible slot queue = ahead ++ e :: eligible slot rest ∧ beyond slot queue = beyond slot rest := by
    rw [hqueue, List.append_assoc, eligible, beyond, List.takeWhile_append_of_pos fun z hz => (hahead z hz).1,
      List.dropWhile_append_of_pos fun z hz => (hahead z hz).1, List.singleton_append,
      List.takeWhile_cons_of_pos (p := fun z : Entry => atOrBefore z.release slot) he,
      List.dropWhile_cons_of_pos (p := fun z : Entry => atOrBefore z.release slot) he]
    exact ⟨rfl, rfl⟩
  have hdrop : ((eligible slot queue).dropWhile fun z => !z.marker) = e :: eligible slot rest := by
    rw [hprefix.1, List.dropWhile_append_of_pos hunmarked, List.dropWhile_cons_of_neg (p := fun z : Entry => !z.marker) hstop]
  have htake : ((eligible slot queue).takeWhile fun z => !z.marker) = ahead := by
    rw [hprefix.1, List.takeWhile_append_of_pos hunmarked,
      List.takeWhile_cons_of_neg (p := fun z : Entry => !z.marker) hstop, List.append_nil]
  rw [findMarker, hdrop]
  simp only [htake, hprefix.2, eligible_append_beyond]

/-- Settles O22, by whether an eligible entry has a marker. -/
theorem slotInSeekingAndCueing : Obligations.SlotInSeekingAndCueing := by
  intro s l hdue x
  refine ⟨fun new hstate ahead e rest hqueue hahead he hmarker => ?_, fun hcueing ahead behind hqueue hahead hbehind => ?_⟩
  · intro gone
    have hfind : findMarker x.nextSlot x.queue = some (ahead, e, rest) := findMarker_of_marked hqueue hahead he hmarker
    have hpresent : present l x.nextSlot x = thenState l new (selectOffTime ahead e rest x) := by
      unfold present
      rcases hstate with ⟨hstate, rfl⟩ | ⟨hstate, rfl⟩
      · rw [hstate]
        simp only [presentSeeking, hfind]
      · rw [hstate]
        simp only [presentCueing, hfind]
    have hnew : x.state ≠ new := by
      rcases hstate with ⟨hstate, rfl⟩ | ⟨hstate, rfl⟩
      · exact hstate.trans_ne (by decide)
      · exact hstate.trans_ne (by decide)
    exact slotGives_of_selected_then hdue hnew (hpresent.trans (by rw [selectOffTime_eq]))
  · obtain ⟨heligible, hbeyond⟩ := eligible_of_split hqueue (fun z hz => (hahead z hz).1) hbehind
    have hnone : findMarker x.nextSlot x.queue = none := by
      have hdrop : ((eligible x.nextSlot x.queue).dropWhile fun z => !z.marker) = [] :=
        List.dropWhile_eq_nil_iff.mpr fun z hz => by rw [(hahead z (heligible ▸ hz)).2]; rfl
      rw [findMarker, hdrop]
    have hpresent : present l x.nextSlot x = skipEntries ahead behind x := by
      rw [present, hcueing]
      simp only [presentCueing, hnone, heligible, hbeyond]
    exact slotGives_of_skipEntries hdue hpresent

/-! ## DRAINING and PARKED -/

/-- Parking, by the stop mode (R117). -/
theorem park_eq {x : Lane} {mode : StopMode} (hstate : x.state = .draining) (hmode : x.stopMode = some mode) (l : LaneId) :
    let y : Lane := { x with state := .parked, held := if mode = .last then x.held else none }
    park l x =
      { lane := { y with counters := shownAgain y }
        effects :=
          releasesOf (if mode = .last then [] else x.held.toList) ++ [Notice.laneState l .draining .parked].map .request
        kind := againKind y } := by
  have hnotice : stateNotice l x.state .parked = [Notice.laneState l .draining .parked].map .request := by
    rw [hstate]
    rfl
  cases mode with
  | last =>
    have hkeep : park l x = thenState l .parked (repeatOrFill x) := by rw [park, hmode]
    rw [hkeep]
    simp only [thenState, repeatOrFill_eq, hnotice, if_true]
    rfl
  | fill =>
    have hrelease : park l x =
        thenState l .parked { repeatOrFill { x with held := none } with effects := releasesOf x.held.toList } := by
      rw [park, hmode]
    rw [hrelease]
    simp only [thenState, repeatOrFill_eq, hnotice, reduceCtorEq, if_false]
    rfl

/-- Settles O23, by the two states. -/
theorem slotInDrainingAndParked : Obligations.SlotInDrainingAndParked := by
  intro s l hdue x
  refine ⟨fun hdraining hqueue mode hmode => ?_, fun hparked => ?_⟩
  · intro y
    have hpresent : present l x.nextSlot x = park l x := by
      rw [present, hdraining]
      simp only [presentDraining, hqueue]
    exact slotGives_of_present hdue (hpresent.trans (park_eq hdraining hmode l)) fun n => againFrame_newFrame rfl rfl _ n
  · have hpresent : present l x.nextSlot x = repeatOrFill x := by rw [present, hparked]
    exact slotGives_of_repeatOrFill hdue hpresent

end Sys2Proof.Slots
end


section
/-! What every slot event does (O18, O19) and the completion of a frame (O24). -/

namespace Sys2Proof.Slots

open Sys2Proof.Machine Sys2Proof.Safety Sys2Proof.Elementary

/-! ## The lane and the requests of a slot event -/

/-- The lane after the command and presentation stages of a slot event (R83 stages 1 and 2). -/
def presentedLane (l : LaneId) (x : Lane) : Lane := (present l x.nextSlot (commanded x)).lane

/-- The frame stage and the grid change nothing else of the lane (R81, R88, R90). -/
theorem laneOf_serveSlot_eq (l : LaneId) (s : State) :
    laneOf (serveSlot l s) l =
      { presentedLane l (laneOf s l) with
        nextSlot := (laneOf (serveSlot l s) l).nextSlot
        remainder := (laneOf (serveSlot l s) l).remainder
        overrun := (laneOf (serveSlot l s) l).overrun
        frame := (laneOf (serveSlot l s) l).frame
        counters :=
          { (presentedLane l (laneOf s l)).counters with
            overruns := (laneOf (serveSlot l s) l).counters.overruns } } := by
  have h := laneOf_serveSlot l s
  rw [commandAndPresent_eq] at h
  rw [h, presentedLane]
  cases (laneOf s l).frame <;> rfl

/-- LANE_STATE of the command stage is the first request of a slot event (R83, R99). -/
theorem serveSlot_requests_eq (l : LaneId) (s : State) :
    ∃ more, (serveSlot l s).requests = s.requests ++ commandNotice l (laneOf s l) ++ more := by
  obtain ⟨later, hlater⟩ := applyEffects_requests (present l (laneOf s l).nextSlot (commanded (laneOf s l))).effects
    (requestAll (commandNotice l (laneOf s l)) (setLane l (presentedLane l (laneOf s l)) s))
  have hrequests := serveSlot_requests l s
  rw [commandAndPresent_eq] at hrequests
  have hstages : applyEffects ((commandNotice l (laneOf s l)).map .request ++
      (present l (laneOf s l).nextSlot (commanded (laneOf s l))).effects) (setLane l (presentedLane l (laneOf s l)) s) =
      applyEffects (present l (laneOf s l).nextSlot (commanded (laneOf s l))).effects
        (requestAll (commandNotice l (laneOf s l)) (setLane l (presentedLane l (laneOf s l)) s)) := by
    rw [applyEffects_append, applyEffects_requestsOnly]
  refine ⟨later ++ overrunNotice l (laneOf s l), hrequests.trans ?_⟩
  rw [← List.append_assoc]
  exact congrArg (· ++ overrunNotice l (laneOf s l)) ((congrArg State.requests hstages).trans hlater)

/-! ## The state a presentation leaves -/

@[simp] theorem repeatOrFill_state (x : Lane) : (repeatOrFill x).lane.state = x.state := by rw [repeatOrFill_eq]

/-- Presentation by time changes no state (R85, R86). -/
theorem presentByTime_state (l : LaneId) (slot : Tick) (x : Lane) : (presentByTime l slot x).lane.state = x.state := by
  unfold presentByTime
  split
  · rfl
  · simp only [markUnderrun]
    split
    · exact repeatOrFill_state x
    · exact repeatOrFill_state x

/-- A DRAINING lane parks when its queue is empty (R116, R117). -/
theorem presentDraining_state (l : LaneId) (slot : Tick) {x : Lane} (h : x.state = .draining) :
    (presentDraining l slot x).lane.state = if x.queue = [] then .parked else .draining := by
  unfold presentDraining
  split
  · next hqueue =>
    rw [if_pos hqueue]
    unfold park
    split <;> rfl
  · next e rest hqueue =>
    rw [if_neg (hqueue ▸ List.cons_ne_nil _ _), presentByTime_state, h]

/-- Settles O19: the command stage is the only one that takes commands, and it comes first. -/
theorem slotTakesOneCommand : Obligations.SlotTakesOneCommand := by
  intro s l hdue hstate x
  obtain ⟨-, hcommands, hlast, hmode, -⟩ := present_samePast l x.nextSlot (commanded x)
  have hlane := laneOf_serveSlot_eq l s
  refine ⟨fun hnone => ?_, fun c rest hcons => ?_⟩
  · have hsame : commanded x = x := by rw [commanded, if_pos hstate, hnone]
    refine ⟨serveSlot l s, exec_slotEvent hdue, ?_⟩
    rw [hlane]
    exact hcommands.trans ((congrArg Lane.commands hsame).trans hnone)
  · have htaken : commanded x =
        { x with commands := rest, state := commandState c, stopMode := commandStopMode x.stopMode c } := by
      rw [commanded, if_pos hstate, hcons]
      cases c <;> rfl
    intro new
    have hnew : new = commandState c := by cases c <;> rfl
    clear_value new
    subst hnew
    obtain ⟨more, hrequests⟩ := serveSlot_requests_eq l s
    have hnotice : commandNotice l x = if commandState c = x.state then [] else [.laneState l x.state (commandState c)] := by
      rw [commandNotice, htaken]
    have hafter : (laneOf (serveSlot l s) l).state = (present l x.nextSlot (commanded x)).lane.state := by
      rw [hlane]
      rfl
    have hstop : (laneOf (serveSlot l s) l).stopMode = commandStopMode x.stopMode c := by
      rw [hlane]
      exact hmode.trans (by rw [htaken])
    refine ⟨serveSlot l s, more, exec_slotEvent hdue, ?_, ?_, hnotice ▸ hrequests, fun hrun => ?_, fun hhold => ?_,
      fun mode hc => ⟨?_, ?_⟩, fun hother => ?_⟩
    · rw [hlane]
      exact hcommands.trans (by rw [htaken])
    · rw [hlane]
      exact hlast.trans (by rw [htaken])
    · subst hrun
      rw [hafter, htaken]
      exact presentByTime_state l _ _
    · subst hhold
      rw [hafter, htaken]
      exact repeatOrFill_state _
    · rw [hstop, hc]
      rfl
    · subst hc
      rw [hafter, htaken]
      exact presentDraining_state l _ rfl
    · rw [hstop]
      cases c with
      | stop mode => exact absurd rfl (hother mode)
      | _ => rfl

/-! ## The counts of a slot event (R93) -/

/-- One of presented, repeated and filled is counted (R93). -/
def oneCounted (c d : LaneCounters) : Prop :=
  (d.presented = bump c.presented ∧ d.repeated = c.repeated ∧ d.filled = c.filled) ∨
    (d.presented = c.presented ∧ d.repeated = bump c.repeated ∧ d.filled = c.filled) ∨
      (d.presented = c.presented ∧ d.repeated = c.repeated ∧ d.filled = bump c.filled)

theorem oneCounted_repeatOrFill (x : Lane) : oneCounted x.counters (repeatOrFill x).lane.counters := by
  unfold repeatOrFill
  split
  · exact .inr (.inl ⟨rfl, rfl, rfl⟩)
  · exact .inr (.inr ⟨rfl, rfl, rfl⟩)

theorem oneCounted_selectEntry (e : Entry) (passed left : List Entry) (x : Lane) :
    oneCounted x.counters (selectEntry e passed left x).lane.counters := .inl ⟨rfl, rfl, rfl⟩

theorem oneCounted_presentByTime (l : LaneId) (slot : Tick) (x : Lane) :
    oneCounted x.counters (presentByTime l slot x).lane.counters := by
  unfold presentByTime
  split
  · exact oneCounted_selectEntry _ _ _ x
  · simp only [markUnderrun]
    split
    · exact oneCounted_repeatOrFill x
    · exact oneCounted_repeatOrFill x

theorem oneCounted_skipEntries (skipped left : List Entry) (x : Lane) :
    oneCounted x.counters (skipEntries skipped left x).lane.counters := oneCounted_repeatOrFill _

/-- Every presentation counts one frame (R93). -/
theorem oneCounted_present (l : LaneId) (slot : Tick) (x : Lane) :
    oneCounted x.counters (present l slot x).lane.counters := by
  unfold present
  cases x.state with
  | idle => exact oneCounted_repeatOrFill x
  | running => exact oneCounted_presentByTime l slot x
  | held => exact oneCounted_skipEntries _ _ x
  | stepping =>
    simp only [presentStepping]
    split
    · exact oneCounted_repeatOrFill x
    · exact .inl ⟨rfl, rfl, rfl⟩
  | seeking =>
    simp only [presentSeeking]
    split
    · exact .inl ⟨rfl, rfl, rfl⟩
    · exact oneCounted_presentByTime l slot x
  | cueing =>
    simp only [presentCueing]
    split
    · exact .inl ⟨rfl, rfl, rfl⟩
    · exact oneCounted_skipEntries _ _ x
  | draining =>
    simp only [presentDraining]
    split
    · unfold park
      split
      · exact oneCounted_repeatOrFill x
      · exact oneCounted_repeatOrFill { x with held := none }
    · exact oneCounted_presentByTime l slot x
  | parked => exact oneCounted_repeatOrFill x

/-! ## The store of a slot event (R51, R52) -/

/-- Every record of st' has the number and the payload of one of st. -/
def payloadsFrom (st st' : Store) : Prop := ∀ r ∈ st'.records, ∃ q ∈ st.records, q.ref = r.ref ∧ q.payload = r.payload

theorem payloadsFrom_mapHolders (st : Store) (ref : Nat) (f : Nat → Nat) :
    payloadsFrom st { st with records := mapHolders ref f st.records } := by
  intro r hr
  obtain ⟨q, hq, rfl⟩ := List.mem_map.mp hr
  refine ⟨q, hq, ?_⟩
  split <;> exact ⟨rfl, rfl⟩

theorem payloadsFrom_trans {a b c : Store} (hab : payloadsFrom a b) (hbc : payloadsFrom b c) : payloadsFrom a c := by
  intro r hr
  obtain ⟨q, hq, href, hpayload⟩ := hbc r hr
  obtain ⟨q', hq', href', hpayload'⟩ := hab q hq
  exact ⟨q', hq', href'.trans href, hpayload'.trans hpayload⟩

/-- A change of one block's holders leaves every other record. -/
theorem recordOf_mapHolders {ref n : Nat} (h : n ≠ ref) (f : Nat → Nat) (st : Store) :
    recordOf { st with records := mapHolders ref f st.records } n = recordOf st n := by
  rw [recordOf, mapHolders, List.find?_map]
  have hfind : (fun r : Record => r.ref == n) ∘ (fun r : Record => if r.ref = ref then { r with holders := f r.holders } else r) =
      fun r : Record => r.ref == n := by
    funext r
    simp only [Function.comp]
    split <;> rfl
  rw [hfind, recordOf]
  cases hr : st.records.find? fun r => r.ref == n with
  | none => rfl
  | some r =>
    have href : r.ref = n := by simpa using List.find?_some hr
    rw [Option.map_some, if_neg (href ▸ h)]

/-- A record taken out leaves every other record. -/
theorem recordOf_dropRecord {n : Nat} {r : Record} (h : n ≠ r.ref) (st : Store) :
    recordOf (dropRecord r st) n = recordOf st n := by
  rw [recordOf, dropRecord, List.find?_filter]
  refine List.find?_congr fun x _ => ?_
  by_cases hx : x.ref = n
  · simp [hx, h]
  · simp [hx]

/-- A release changes no payload and no block but its own (R52). -/
theorem release_keeps (ref : Nat) (s : State) :
    payloadsFrom s.store (release ref s).store ∧
      ∀ n, n ≠ ref → recordOf (release ref s).store n = recordOf s.store n := by
  cases hrecord : recordOf s.store ref with
  | none =>
    rw [release_absent hrecord]
    exact ⟨fun r hr => ⟨r, hr, rfl, rfl⟩, fun _ _ => rfl⟩
  | some r =>
    have href : r.ref = ref := by simpa using List.find?_some hrecord
    by_cases hholders : 2 ≤ r.holders
    · rw [release_kept hrecord hholders]
      exact ⟨payloadsFrom_mapHolders _ _ _, fun n hn => recordOf_mapHolders hn _ _⟩
    · rw [release_freed hrecord (by omega), judgeRecovery_eq]
      exact ⟨fun q hq => ⟨q, List.mem_of_mem_filter hq, rfl, rfl⟩, fun n hn => recordOf_dropRecord (href ▸ hn) s.store⟩

/-- Effects change no payload and no block they do not release (R52). -/
theorem applyEffects_keeps (fx : List Effect) (s : State) :
    payloadsFrom s.store (applyEffects fx s).store ∧
      ∀ n, .release n ∉ fx → recordOf (applyEffects fx s).store n = recordOf s.store n := by
  induction fx generalizing s with
  | nil => exact ⟨fun r hr => ⟨r, hr, rfl, rfl⟩, fun _ _ => rfl⟩
  | cons a rest ih =>
    obtain ⟨hpayloads, hrecords⟩ := ih (applyEffect s a)
    rw [applyEffects_cons]
    cases a with
    | request n => exact ⟨hpayloads, fun m hm => hrecords m fun h => hm (List.mem_cons_of_mem _ h)⟩
    | release ref =>
      obtain ⟨hpayloads', hrecords'⟩ := release_keeps ref s
      refine ⟨payloadsFrom_trans hpayloads' hpayloads, fun n hn => ?_⟩
      have hne : n ≠ ref := fun h => hn (h ▸ List.mem_cons_self)
      exact (hrecords n fun h => hn (List.mem_cons_of_mem _ h)).trans (hrecords' n hne)

/-- The steps of a lane one after another give up what they release (R48, R52). -/
theorem laneHolders_of_laneRun {D : Prop} {clock : TimeBase} {x y : Lane} {fx : List Effect} (h : LaneRun D clock x y fx)
    (ref : Nat) : laneHolders ref y + releaseCount ref fx = laneHolders ref x := by
  induction h with
  | start => rfl
  | touch before move ih => rw [move.laneHolders_eq, ih]
  | drop before move ih =>
    rw [releaseCount_append, ← ih, ← move.laneHolders_eq ref]
    omega
  | notice before n ih =>
    have hnone : releaseCount ref [.request n] = 0 := rfl
    rw [releaseCount_append, hnone, Nat.add_zero, ih]

/-- Before the frame stage a slot event releases only blocks of the lane's entries and its unit, and shows no other (R83). -/
theorem presented_without {l : LaneId} {x : Lane} (hactive : x.state ≠ .idle) {ref : Nat}
    (h : ∀ e ∈ x.queue ++ x.held.toList, e.block ≠ ref) :
    .release ref ∉ (commandAndPresent l x).effects ∧ ∀ e ∈ (presentedLane l x).held, e.block ≠ ref := by
  have hrun : LaneRun True ⟨0, true⟩ x (commandAndPresent l x).lane (commandAndPresent l x).effects :=
    laneRun_commandAndPresent l hactive
  have hcount := laneHolders_of_laneRun hrun ref
  have hframe : (commandAndPresent l x).lane.frame = x.frame := by
    obtain ⟨-, -, -, -, -, -, -, -, hkept, -⟩ := present_samePast l x.nextSlot (commanded x)
    rw [commandAndPresent_eq]
    exact hkept.trans (commanded_frame x)
  have hnone : ((heldEntries x).countP fun e => e.block == ref) = 0 :=
    List.countP_eq_zero.mpr fun e he => by simpa using h e he
  rw [laneHolders_eq, laneHolders_eq, hframe, hnone] at hcount
  have hreleases : releaseCount ref (commandAndPresent l x).effects = 0 := by omega
  have hentries : ((heldEntries (commandAndPresent l x).lane).countP fun e => e.block == ref) = 0 := by omega
  refine ⟨List.count_eq_zero.mp hreleases, fun e he hblock => ?_⟩
  have hheld : e ∈ heldEntries (commandAndPresent l x).lane := by
    rw [commandAndPresent_eq]
    exact List.mem_append_right _ (Option.mem_toList.mpr he)
  exact List.countP_eq_zero.mp hentries e hheld (by simpa using hblock)

/-- The store a slot event leaves: no payload changes, and no block but those of the lane's entries and its unit (R51, R52). -/
theorem serveSlot_store {s : State} {l : LaneId} (hactive : (laneOf s l).state ≠ .idle) :
    payloadsFrom s.store (serveSlot l s).store ∧
      ∀ ref, (∀ e ∈ (laneOf s l).queue ++ (laneOf s l).held.toList, e.block ≠ ref) →
        recordOf (serveSlot l s).store ref = recordOf s.store ref := by
  generalize hw : applyEffects (commandAndPresent l (laneOf s l)).effects
    (setLane l (commandAndPresent l (laneOf s l)).lane s) = w
  have hlane : laneOf w l = presentedLane l (laneOf s l) := by
    rw [← hw, laneOf_applyEffects, laneOf_setLane_same, commandAndPresent_eq]
    rfl
  obtain ⟨hpayloads, hrecords⟩ := applyEffects_keeps (commandAndPresent l (laneOf s l)).effects
    (setLane l (commandAndPresent l (laneOf s l)).lane s)
  rw [hw] at hpayloads hrecords
  have hstore : (serveSlot l s).store =
      (frameStage l (commandAndPresent l (laneOf s l)).kind (laneOf s l).nextSlot w).store := by
    rw [← hw]
    rfl
  rw [hstore, frameStage_store]
  have hbefore (ref : Nat) (href : ∀ e ∈ (laneOf s l).queue ++ (laneOf s l).held.toList, e.block ≠ ref) :
      recordOf w.store ref = recordOf s.store ref := hrecords ref (presented_without hactive href).1
  cases (laneOf w l).frame with
  | some f => exact ⟨hpayloads, hbefore⟩
  | none =>
    cases hblock : (newFrame (commandAndPresent l (laneOf s l)).kind (laneOf s l).nextSlot (laneOf w l)
        (heldLength w (laneOf w l))).block with
    | none => exact ⟨hpayloads, hbefore⟩
    | some b =>
      refine ⟨payloadsFrom_trans hpayloads (payloadsFrom_mapHolders _ _ _), fun ref href => ?_⟩
      obtain ⟨e, he, hb, -⟩ := newFrame_block hblock
      have hne : ref ≠ b := fun heq => (presented_without hactive href).2 e (hlane ▸ he) (hb.trans heq.symm)
      exact (recordOf_mapHolders hne _ _).trans (hbefore ref href)

/-- A new frame carries the slot time, the state after presentation and the lane's divisor (R8, R88). -/
theorem newFrame_fields (kind : FrameKind) (slot : Tick) (x : Lane) (n : Nat) :
    let f := newFrame kind slot x n
    f.slot = slot ∧ f.lstate = x.state ∧ f.divisor = x.config.divisor ∧ f.elapsed = 0 := by
  dsimp only
  unfold newFrame
  split <;> exact ⟨rfl, rfl, rfl, rfl⟩

/-- What the command and presentation stages keep of a lane (R83 stages 1 and 2). -/
theorem presentedLane_keeps (l : LaneId) (x : Lane) :
    let z := presentedLane l x
    z.config = x.config ∧ z.nextSlot = x.nextSlot ∧ z.remainder = x.remainder ∧ z.overrun = x.overrun ∧
      z.frame = x.frame ∧ z.counters.overruns = x.counters.overruns := by
  obtain ⟨hconfig, -, -, -, hnext, hremainder, -, hoverrun, hframe, hoverruns⟩ :=
    present_samePast l x.nextSlot (commanded x)
  exact ⟨hconfig.trans (commanded_config x), hnext.trans (commanded_nextSlot x),
    hremainder.trans (commanded_remainder x), hoverrun.trans (commanded_overrun x), hframe.trans (commanded_frame x),
    hoverruns.trans (congrArg LaneCounters.overruns (commanded_counters x))⟩

/-- The grid after a slot event (R81). -/
theorem serveSlot_grid (l : LaneId) (s : State) :
    let x := laneOf s l
    let y := laneOf (serveSlot l s) l
    y.nextSlot = x.nextSlot + BitVec.ofNat 32 ((x.remainder.toNat + x.config.cn.toNat) / x.config.cd.toNat) ∧
      y.remainder = word ((x.remainder.toNat + x.config.cn.toNat) % x.config.cd.toNat) := by
  obtain ⟨hconfig, hnext, hremainder, -⟩ := presentedLane_keeps l (laneOf s l)
  have hlane := laneOf_serveSlot l s
  rw [commandAndPresent_eq] at hlane
  have hgrid : ∀ z : Lane, z = presentedLane l (laneOf s l) →
      (laneOf (serveSlot l s) l).nextSlot =
          z.nextSlot + BitVec.ofNat 32 ((z.remainder.toNat + z.config.cn.toNat) / z.config.cd.toNat) ∧
        (laneOf (serveSlot l s) l).remainder = word ((z.remainder.toNat + z.config.cn.toNat) % z.config.cd.toNat) := by
    rintro z rfl
    rw [hlane]
    cases (laneOf s l).frame <;> exact ⟨rfl, rfl⟩
  have h := hgrid _ rfl
  rwa [hconfig, hnext, hremainder] at h

/-- The frame stage on a quiet output (R88). -/
theorem serveSlot_of_quiet {l : LaneId} {s : State} (h : (laneOf s l).frame = none) :
    let x := laneOf s l
    let y := laneOf (serveSlot l s) l
    y.counters.overruns = x.counters.overruns ∧ y.overrun = x.overrun ∧
      ∃ f, y.frame = some f ∧ f.slot = x.nextSlot ∧ f.lstate = y.state ∧ f.divisor = x.config.divisor ∧ f.elapsed = 0 := by
  obtain ⟨hconfig, -, -, hoverrun, -, hoverruns⟩ := presentedLane_keeps l (laneOf s l)
  have hlane := laneOf_serveSlot l s
  rw [commandAndPresent_eq, h] at hlane
  dsimp only
  rw [hlane]
  obtain ⟨hslot, hstate, hdivisor, helapsed⟩ := newFrame_fields
    (present l (laneOf s l).nextSlot (commanded (laneOf s l))).kind (laneOf s l).nextSlot (presentedLane l (laneOf s l)) _
  exact ⟨hoverruns, hoverrun, _, rfl, hslot, hstate, hdivisor.trans (congrArg LaneConfig.divisor hconfig), helapsed⟩

/-- The frame stage while a frame is in transmission (R90). -/
theorem serveSlot_of_busy {l : LaneId} {s : State} {f : Frame} (h : (laneOf s l).frame = some f) :
    let y := laneOf (serveSlot l s) l
    y.frame = some f ∧ y.counters.overruns = bump (laneOf s l).counters.overruns ∧ y.overrun = true := by
  obtain ⟨-, -, -, -, hframe, hoverruns⟩ := presentedLane_keeps l (laneOf s l)
  have hlane := laneOf_serveSlot l s
  rw [commandAndPresent_eq, h] at hlane
  dsimp only
  rw [hlane]
  exact ⟨hframe.trans h, congrArg bump hoverruns, rfl⟩

/-- Settles O18, stage by stage. -/
theorem slotKeepsGridAndCounts : Obligations.SlotKeepsGridAndCounts := by
  intro s l hdue hcd x c total
  obtain ⟨hframe, hothers⟩ := serveSlot_eq l s
  obtain ⟨hpayloads, hrecords⟩ := serveSlot_store hdue.1
  obtain ⟨hnext, hremainder⟩ := serveSlot_grid l s
  have hconfig : (laneOf (serveSlot l s) l).config = x.config := by
    rw [laneOf_serveSlot_eq]
    exact (presentedLane_keeps l x).1
  have hcounted : oneCounted c (laneOf (serveSlot l s) l).counters := by
    have hpresented := oneCounted_present l x.nextSlot (commanded x)
    rw [commanded_counters] at hpresented
    rw [laneOf_serveSlot_eq]
    exact hpresented
  have hsmall : total % x.config.cd.toNat < 2 ^ 16 :=
    (Nat.mod_lt total hcd).trans x.config.cd.isLt
  refine ⟨serveSlot l s, exec_slotEvent hdue, hframe, hothers, hpayloads, hrecords, hconfig, hnext, ?_, hcounted,
    fun hquiet => serveSlot_of_quiet hquiet, fun f hbusy => serveSlot_of_busy hbusy⟩
  rw [hremainder, word, BitVec.toNat_ofNat, Nat.mod_eq_of_lt hsmall]

/-! ## The completion of a frame (R88, R89) -/

/-- The words of a frame with its block's payload, in the words of R8. -/
theorem laneFrameWords_eq {s : State} {l : LaneId} {f : Frame} (h : (laneOf s l).frame = some f) :
    laneFrameWords s l =
      [BitVec.ofNat 16
          ((match f.kind with
            | .unitFrame => 1
            | .repeatFrame => 2
            | .fillFrame => 3) * 4096 + laneStateCode f.lstate * 16 + (if f.marker then 2 else 0) + if f.disc then 1 else 0),
        f.flow, f.seq, f.slot.extractLsb' 16 16, f.slot.extractLsb' 0 16, f.upts.extractLsb' 16 16,
        f.upts.extractLsb' 0 16, BitVec.ofNat 16 f.length] ++
      match f.block with
      | none => List.replicate f.length f.fillWord
      | some ref => blockPayload s.store ref := by
  have hmarker : f.marker.toNat * 2 = if f.marker then 2 else 0 := LaneDirectives.bool_toNat_mul _ _
  have hdisc : f.disc.toNat = if f.disc then 1 else 0 := by cases f.disc <;> rfl
  rw [laneFrameWords, h]
  simp only [frameWords, frameHeader, hmarker, hdisc]
  cases f.kind <;> cases f.block <;> rfl

/-- The word that leaves at k × W ticks (R88). -/
theorem frameWordNow_of_eq {f : Frame} {k : Nat} (hgoing : f.elapsed < frameTicks f) (h : f.elapsed = k * f.divisor.toNat) :
    frameWordNow f = some k := by
  have hpos : 0 < f.divisor.toNat := by
    rcases Nat.eq_zero_or_pos f.divisor.toNat with hzero | hpos
    · rw [frameTicks, hzero, Nat.mul_zero] at hgoing
      exact absurd hgoing (Nat.not_lt_zero _)
    · exact hpos
  rw [frameWordNow, if_pos ⟨hgoing, h ▸ Nat.mul_mod_left _ _⟩, h, Nat.mul_div_cancel _ hpos]

/-- No word leaves between two multiples of W (R88). -/
theorem frameWordNow_of_between {f : Frame} {k : Nat} (hlow : k * f.divisor.toNat < f.elapsed)
    (hhigh : f.elapsed < (k + 1) * f.divisor.toNat) : frameWordNow f = none := by
  refine if_neg fun ⟨_, hmod⟩ => ?_
  obtain ⟨j, hj⟩ := Nat.dvd_of_mod_eq_zero hmod
  rw [hj, Nat.mul_comm f.divisor.toNat] at hlow hhigh
  have := Nat.lt_of_mul_lt_mul_right hlow
  have := Nat.lt_of_mul_lt_mul_right hhigh
  omega

/-- A release that frees a block, in the words of the statements (R52, R53). -/
theorem release_freed_eq {ref : Nat} {s : State} {r : Record} (h : recordOf s.store ref = some r) (hr : r.holders ≤ 1) :
    let cells := s.store.freeCells + (r.payload.length + 31) / 32
    let records := s.store.freeRecords + 1
    let recovers := s.store.fullFlag = true ∧ 128 ≤ cells ∧ 64 ≤ records
    release ref s =
      { s with
        store :=
          { records := s.store.records.filter fun y => y.ref ≠ ref
            freeCells := cells
            freeRecords := records
            fullFlag := if recovers then false else s.store.fullFlag }
        requests :=
          s.requests ++
            if recovers then [.storeRecovered (BitVec.ofNat 16 cells) (BitVec.ofNat 16 records)] else [] } := by
  have href : r.ref = ref := by simpa using List.find?_some h
  have hrecords : (s.store.records.filter fun y => y.ref != r.ref) = s.store.records.filter fun y => y.ref ≠ ref :=
    List.filter_congr fun y _ => by rw [href, bne, beq_eq_decide, decide_not]
  intro cells records recovers
  have hcells : (dropRecord r s.store).freeCells = cells := rfl
  have hrecovered : recovered (dropRecord r s.store) = decide recovers := by
    rw [Bool.eq_iff_iff, recovered, Bool.and_eq_true, decide_eq_true_iff, decide_eq_true_iff]
    rfl
  rw [release_freed h hr, judgeRecovery_eq, setStore_store, setStore_requests, hrecovered]
  by_cases hrec : recovers
  · simp only [hrec, decide_true, if_true, Bool.not_true, Bool.and_false]
    rw [← hrecords]
    rfl
  · simp only [hrec, decide_false, if_false, Bool.not_false, Bool.and_true, Bool.false_eq_true]
    rw [← hrecords]
    rfl

/-- Settles O24, by the age of the frame and the holders of its block. -/
theorem frameCompletionReleasesBlock : Obligations.FrameCompletionReleasesBlock := by
  intro s l
  refine ⟨fun hquiet => ⟨by rw [laneOutput, hquiet], congrArg Host.Outcome.next ?_⟩, fun f hf => ?_⟩
  · rw [frameCompletion, frameComplete, hquiet]
    rfl
  · intro ticks kind words lanes
    have hwords : laneFrameWords s l = words := laneFrameWords_eq hf
    have houtput : laneOutput s l = (frameWordNow f).bind fun k => words[k]? := by
      rw [laneOutput, hf, ← hwords]
    refine ⟨hwords, fun hgoing => ⟨congrArg Host.Outcome.next ?_, fun k => ⟨fun hnow => ?_, fun hlow hhigh => ?_⟩⟩,
      fun hdone => ⟨?_, ?_⟩⟩
    · have hnot : frameComplete (laneOf s l) = false := by
        rw [frameComplete, hf]
        exact decide_eq_false (Nat.not_le.mpr hgoing)
      rw [frameCompletion, hnot]
      rfl
    · rw [houtput, frameWordNow_of_eq hgoing hnow]
      rfl
    · rw [houtput, frameWordNow_of_between hlow hhigh]
      rfl
    · have hnone : frameWordNow f = none := if_neg fun h => Nat.not_lt.mpr hdone h.1
      rw [houtput, hnone]
      rfl
    · have hcomplete : frameComplete (laneOf s l) = true := by
        rw [frameComplete, hf]
        exact decide_eq_true hdone
      have hrun : frameCompletion l s = applyEffects (f.block.toList.map .release) { s with lanes := lanes } := by
        rw [frameCompletion, frameRelease, hcomplete, hf]
        rfl
      refine ⟨fun hfill => congrArg Host.Outcome.next (hrun.trans (by rw [hfill]; rfl)), fun ref r hblock hrecord => ?_⟩
      have hreleased : frameCompletion l s = release ref { s with lanes := lanes } := by
        rw [hrun, hblock]
        rfl
      exact ⟨fun hkept => congrArg Host.Outcome.next (hreleased.trans (release_kept hrecord hkept)),
        fun hfreed => congrArg Host.Outcome.next (hreleased.trans (release_freed_eq hrecord hfreed))⟩

end Sys2Proof.Slots
end


section
/-! Expiry (O49) and the overdue walk (O50). -/

namespace Sys2Proof.Expiry

open Sys2Proof.Machine Sys2Proof.Safety Sys2Proof.ScheduledList

/-! ## The owners of scheduled directives do not look at the control unit (R169, R170) -/

/-- The part with another control unit and another scheduler. -/
def beside (c : Control) (k : Scheduler) (s : State) : State := { s with control := c, scheduler := k }

theorem release_beside (ref : Nat) (c : Control) (k : Scheduler) (s : State) :
    release ref (beside c k s) = beside c k (release ref s) := by
  have hrecovery (t : State) : judgeRecovery (beside c k t) = beside c k (judgeRecovery t) := by
    rw [judgeRecovery_eq, judgeRecovery_eq]
    rfl
  cases hrecord : recordOf s.store ref with
  | none =>
    rw [release_absent hrecord]
    exact release_absent hrecord
  | some r =>
    by_cases hholders : 2 ≤ r.holders
    · rw [release_kept hrecord hholders]
      exact release_kept (s := beside c k s) hrecord hholders
    · rw [release_freed hrecord (by omega)]
      exact (release_freed (s := beside c k s) hrecord (by omega)).trans
        (hrecovery (setStore (dropRecord r s.store) s))

theorem applyEffects_beside (fx : List Effect) (c : Control) (k : Scheduler) (s : State) :
    applyEffects fx (beside c k s) = beside c k (applyEffects fx s) := by
  induction fx generalizing s with
  | nil => rfl
  | cons a rest ih =>
    have ha : applyEffect (beside c k s) a = beside c k (applyEffect s a) := by
      cases a with
      | release ref => exact release_beside ref c k s
      | request n => rfl
    rw [applyEffects_cons, ha, ih, applyEffects_cons]

theorem updateLane_beside (l : LaneId) (r : Lane × List Effect) (c : Control) (k : Scheduler) (s : State) :
    updateLane l r (beside c k s) = beside c k (updateLane l r s) :=
  applyEffects_beside r.2 c k (setLane l r.1 s)

/-- The owner's answer in s does not depend on the control unit, nor on the scheduler but for its list. -/
def blind (owner : State → Answer) (s : State) : Prop :=
  ∀ c k, k.list = s.scheduler.list →
    owner (beside c k s) = { owner s with state := beside c k (owner s).state }

theorem blind_refuse (st : Status) (s : State) : blind (refuse st) s := fun _ _ _ => rfl

theorem blind_afterForm {α : Type} {form : Except Status α} {owner : α → State → Answer} {s : State}
    (h : ∀ x, blind (owner x) s) : blind (fun t => afterForm form (fun x => owner x t) t) s := by
  cases form with
  | error st => exact blind_refuse st s
  | ok x => exact h x

theorem blind_ownFlowSet (a : FlowSetArgs) (s : State) : blind (ownFlowSet a) s := by
  intro c k _
  rw [ownFlowSet, ownFlowSet, show (beside c k s).classifier = s.classifier from rfl]
  cases findFlow a.flow s.classifier.table with
  | some e => rfl
  | none =>
    by_cases hroom : s.classifier.table.length < Config.tableEntries
    · simp only [if_pos hroom]
      rfl
    · simp only [if_neg hroom]
      rfl

theorem blind_ownFlowClear (f : Word) (s : State) : blind (ownFlowClear f) s := by
  intro c k _
  rw [ownFlowClear, ownFlowClear, show (beside c k s).classifier = s.classifier from rfl]
  cases findFlow f s.classifier.table <;> rfl

theorem blind_ownLaneSource (a : LaneSourceArgs) (s : State) : blind (ownLaneSource a) s :=
  fun c k _ => congrArg done (updateLane_beside a.lane (switchSource a (laneOf s a.lane)) c k s)

theorem blind_ownHalt (l : LaneId) (s : State) : blind (ownHalt l) s :=
  fun c k _ => congrArg done (updateLane_beside l (haltLane l (laneOf s l)) c k s)

theorem blind_ownStart (l : LaneId) (anchor : Tick) (s : State) : blind (ownStart l anchor) s := by
  intro c k _
  rw [ownStart, ownStart, show (beside c k s).time = s.time from rfl,
    show laneOf (beside c k s) l = laneOf s l from rfl]
  cases startFailure (laneOf s l) s.time anchor with
  | some st => rfl
  | none => exact congrArg done (updateLane_beside l (startLane l s.time.tb anchor (laneOf s l)) c k s)

theorem blind_ownCommand (l : LaneId) (command : Command) (s : State) : blind (ownCommand l command) s := by
  intro c k _
  rw [ownCommand, ownCommand, show laneOf (beside c k s) l = laneOf s l from rfl]
  cases arrivalFailure (laneOf s l) command <;> rfl

theorem blind_ownTimeAdjust (delta : Tick) (s : State) : blind (ownTimeAdjust delta) s := by
  intro c k hlist
  have hguard : guardRefuses delta (beside c k s) = guardRefuses delta s := by
    rw [guardRefuses, guardRefuses, show (beside c k s).scheduler.list = s.scheduler.list from hlist]
    rfl
  rw [ownTimeAdjust, ownTimeAdjust, hguard, show (beside c k s).time = s.time from rfl]
  by_cases hset : s.time.isSet = false
  · simp only [if_pos hset]
    rfl
  · by_cases hrefused : guardRefuses delta s = true
    · simp only [if_neg hset, if_pos hrefused]
      rfl
    · simp only [if_neg hset, if_neg hrefused]
      rfl

/-- The owner stage of an expired directive (R170). -/
theorem blind_serveScheduled (d : Directive) (ps : List Word) (s : State) : blind (serveScheduled d ps) s := by
  cases d with
  | flowSet => exact blind_afterForm fun a => blind_ownFlowSet a s
  | flowClear => exact blind_afterForm fun f => blind_ownFlowClear f s
  | laneSource => exact blind_afterForm fun a => blind_ownLaneSource a s
  | start => exact blind_afterForm fun a => blind_ownStart a.1 a.2 s
  | halt => exact blind_afterForm fun l => blind_ownHalt l s
  | run => exact blind_afterForm fun l => blind_ownCommand l .run s
  | hold => exact blind_afterForm fun l => blind_ownCommand l .hold s
  | step => exact blind_afterForm fun l => blind_ownCommand l .step s
  | seek => exact blind_afterForm fun l => blind_ownCommand l .seek s
  | cue => exact blind_afterForm fun l => blind_ownCommand l .cue s
  | stop => exact blind_afterForm fun a => blind_ownCommand a.1 (.stop a.2) s
  | timeAdjust => exact blind_afterForm fun v => blind_ownTimeAdjust v s
  | _ => exact blind_refuse .notSchedulable s

/-- No schedulable directive answers with words (R164). -/
theorem serveScheduled_results (d : Directive) (ps : List Word) (s : State) : (serveScheduled d ps s).results = [] := by
  have hform {α : Type} (form : Except Status α) (owner : α → Answer) (h : ∀ x, (owner x).results = []) :
      (afterForm form owner s).results = [] := by
    cases form with
    | error st => rfl
    | ok x => exact h x
  have hcommand (l : LaneId) (c : Command) : (ownCommand l c s).results = [] := by
    unfold ownCommand
    split <;> rfl
  cases d with
  | flowSet =>
    refine hform _ _ fun a => ?_
    unfold ownFlowSet
    split
    · rfl
    · split <;> rfl
  | flowClear =>
    refine hform _ _ fun f => ?_
    unfold ownFlowClear
    split <;> rfl
  | laneSource => exact hform _ _ fun a => rfl
  | start =>
    refine hform _ _ fun a => ?_
    unfold ownStart
    split <;> rfl
  | halt => exact hform _ _ fun l => rfl
  | run => exact hform _ _ fun l => hcommand l .run
  | hold => exact hform _ _ fun l => hcommand l .hold
  | step => exact hform _ _ fun l => hcommand l .step
  | seek => exact hform _ _ fun l => hcommand l .seek
  | cue => exact hform _ _ fun l => hcommand l .cue
  | stop => exact hform _ _ fun a => hcommand a.1 (.stop a.2)
  | timeAdjust =>
    refine hform _ _ fun v => ?_
    unfold ownTimeAdjust
    split
    · rfl
    · split <;> rfl
  | _ => rfl

/-! ## The directive in service issued alone (R141, R169) -/

/-- A held list is not looked at (R165). -/
theorem lookAtHead_of_held {s : State} (h : s.scheduler.overdue ≠ 0) : lookAtHead s = s :=
  expireDue_of_busy (by rw [mayExpire, (listBusy_iff).mpr (.inl h)]; rfl) _

/-- TIME_ADJUST issued while the list is held does what its expiry does, but for the overdue request it sends (R70, R170). -/
theorem serveTimeAdjust_of_held {s : State} (h : s.scheduler.overdue ≠ 0) (ps : List Word) (room : Nat) :
    ∃ k, serveTimeAdjust ps room s =
      { serveScheduled .timeAdjust ps s with state := { (serveScheduled .timeAdjust ps s).state with scheduler := k } } := by
  unfold serveTimeAdjust serveScheduled
  cases formTimeAdjust ps with
  | error st => exact ⟨s.scheduler, rfl⟩
  | ok delta =>
    simp only [afterForm_ok]
    by_cases hset : s.time.isSet = true
    · by_cases hguard : guardRefuses delta s = true
      · rw [ownTimeAdjust_guarded hset hguard]
        exact ⟨s.scheduler, congrArg (fun t => { refuse .tooFar s with state := t }) (lookAtHead_of_held h)⟩
      · rw [withOverdue_accepted hset (Bool.eq_false_iff.mpr hguard), ownTimeAdjust,
          if_neg (fun hunset => Bool.false_ne_true (hunset.symm.trans hset)), if_neg hguard]
        exact ⟨(adjustedState delta s).scheduler, rfl⟩
    · rw [ownTimeAdjust_unset (Bool.eq_false_iff.mpr hset)]
      exact ⟨s.scheduler, rfl⟩

/-- A schedulable directive issued while the list is held does what its expiry does, but for the scheduler (R141, R170). -/
theorem exec_of_schedulable {d : Directive} {ps : List Word} {s : State} (hd : schedulable d = true)
    (held : s.scheduler.overdue ≠ 0) (hissue : mayIssue d ps s) :
    ∃ k, exec (directiveCommand d ps) s =
      .next (answered d (serveScheduled d ps s).status (serveScheduled d ps s).results
        { (serveScheduled d ps s).state with scheduler := k }) := by
  have hsame {serve : List Word → Nat → State → Answer} (h : serve ps (roomFor s) s = serveScheduled d ps s) :
      ∃ k, (Host.Outcome.next (issueDirective d ps serve s) : Host.Outcome State Fault Refusal) =
        .next (answered d (serveScheduled d ps s).status (serveScheduled d ps s).results
          { (serveScheduled d ps s).state with scheduler := k }) :=
    ⟨_, Transport.next_issueDirective_of_serve hissue h⟩
  cases d with
  | timeAdjust =>
    obtain ⟨k, hk⟩ := serveTimeAdjust_of_held held ps (roomFor s)
    exact ⟨k, Transport.next_issueDirective_of_serve hissue hk⟩
  | flowSet => exact hsame rfl
  | flowClear => exact hsame rfl
  | laneSource => exact hsame rfl
  | start => exact hsame rfl
  | halt => exact hsame rfl
  | run => exact hsame rfl
  | hold => exact hsame rfl
  | step => exact hsame rfl
  | seek => exact hsame rfl
  | cue => exact hsame rfl
  | stop => exact hsame rfl
  | _ => exact absurd hd Bool.false_ne_true

/-- With no block in execution an answer is kept and nothing follows (R130, log entry 5). -/
theorem conclude_of_none {s : State} (h : s.control.execution = none) (r : ResultEntry) :
    conclude r s = { s with control := { s.control with lastAnswer := some r } } := by
  rw [conclude, h]
  rfl

/-- The end of an expiry is the owner's effect of its directive issued alone, with SCHED_DONE (R141, R169). -/
theorem exists_issuedAlone {e : SdlEntry} (s : State) (h : admissible e.code e.params) :
    ∃ v, issuedAlone e s v (ownerAnswer e s).status ∧
      ∀ late, endExpiry { entry := e, late := late } s = expiryEnded e late s v (ownerAnswer e s).status := by
  obtain ⟨form, hform, hcode, -⟩ := h
  have hd : schedulable e.code = true := (mem_schedulableForms).mp ⟨form, hform, hcode⟩
  let c : Control := { s.control with execution := none, restart := none, inquiry := none }
  let k : Scheduler := { s.scheduler with service := none, overdue := 1 }
  let s0 : State := setScheduler { s.scheduler with service := none } s
  have hissue : mayIssue e.code e.params (beside c k s0) := rfl
  obtain ⟨k', hexec⟩ := exec_of_schedulable hd (s := beside c k s0) (Nat.one_ne_zero) hissue
  have hblind : serveScheduled e.code e.params (beside c k s0) =
      { ownerAnswer e s with state := beside c k (ownerAnswer e s).state } :=
    blind_serveScheduled e.code e.params s0 c k rfl
  have hresults : (ownerAnswer e s).results = [] := serveScheduled_results _ _ _
  rw [hblind, answered, conclude_of_none (by rfl), hresults] at hexec
  obtain ⟨howned, -⟩ := ownsOnly_serveScheduled e.code e.params s0
  refine ⟨_, ⟨hexec, rfl⟩, fun late => ?_⟩
  change request _ (ownerAnswer e s).state = _
  rw [show (ownerAnswer e s).state = ownedFrom s0 (ownerAnswer e s).state from howned]
  rfl

/-! ## The looks at the list (R165, R169, R171) -/

/-- After a walk the scheduler finds nothing to expire: no head is due, or an expiry is in service (R171). -/
theorem lookAtHead_overdueWalk {n : Nat} {s : State} (h : s.scheduler.list.length ≤ n) :
    lookAtHead (overdueWalk n s) = overdueWalk n s := by
  induction n generalizing s with
  | zero =>
    have hnil : s.scheduler.list = [] := List.length_eq_zero_iff.mp (by omega)
    exact expireDue_of_none (dueHead_of_nil (s := endOverdue s) hnil) _
  | succ n ih =>
    rcases hlist : s.scheduler.list with _ | ⟨e, rest⟩
    · simp only [overdueWalk, dueHead_of_nil hlist]
      exact expireDue_of_none (dueHead_of_nil (s := endOverdue s) hlist) _
    · rw [hlist, List.length_cons] at h
      simp only [overdueWalk]
      split
      · next hnone => exact expireDue_of_none (s := endOverdue s) hnone _
      · rw [takeHead_of_cons hlist]
        exact lookAtHead_of_inService (Option.some_ne_none _)
      · exact ih (by rw [endExpiry_takeHead_list hlist]; omega)

/-- The owner of the head answers later just when the next of the answers to come says so (log entry 22). -/
theorem nextAnswer_eq (s : State) :
    nextAnswer s = if s.surroundings.answers.head? = some .later then .later else .atOnce := by
  rw [nextAnswer]
  rcases s.surroundings.answers with _ | ⟨m, more⟩
  · rfl
  · cases m <;> rfl

/-- No head is due, in the words of the statements. -/
theorem dueHead_eq_none {s : State} (h : ∀ e ∈ s.scheduler.list.head?.toList, atOrBefore e.due s.time.tb = false) :
    dueHead s = none := by
  rcases hlist : s.scheduler.list with _ | ⟨e, rest⟩
  · exact dueHead_of_nil hlist
  · have he : ¬ atOrBefore e.due s.time.tb = true := by simp [h e (by simp [hlist])]
    rw [dueHead_of_cons hlist, if_neg he]

/-- A due head whose owner answers later is in service (R169, log entry 22). -/
theorem lookAtHead_of_later {s : State} {e : SdlEntry} {rest : List SdlEntry} (hlist : s.scheduler.list = e :: rest)
    (due : atOrBefore e.due s.time.tb = true) (free : mayExpire s = true) (later : nextAnswer s = .later) :
    lookAtHead s = takeHead false s := by
  rw [lookAtHead, hlist, List.length_cons]
  simp only [expireDue, free, dueHead_of_cons hlist, due, later, if_pos]

/-- In the walk, a due head whose owner answers later is in service (R171, log entry 22). -/
theorem walkOn_of_later {s : State} {e : SdlEntry} {rest : List SdlEntry} (hlist : s.scheduler.list = e :: rest)
    (due : atOrBefore e.due s.time.tb = true) (later : nextAnswer s = .later) : walkOn s = takeHead true s := by
  rw [walkOn, hlist, List.length_cons]
  simp only [overdueWalk, dueHead_of_cons hlist, due, later, if_pos]

/-- Without a due head the walk ends the requests waiting (R171). -/
theorem walkOn_of_none {s : State} (h : dueHead s = none) : walkOn s = endOverdue s := by
  rw [walkOn]
  cases s.scheduler.list.length with
  | zero => rfl
  | succ n => simp only [overdueWalk, h]

section Service

variable {s : State} {e : SdlEntry} {rest : List SdlEntry}

/-- The state with the head in service, as the scheduler leaves it (R169). -/
theorem takeHead_eq_inServiceNow (hlist : s.scheduler.list = e :: rest) (late : Bool) :
    takeHead late s = inServiceNow e rest late s := takeHead_of_cons hlist late

theorem expiry_of_service {late : Bool} (h : s.scheduler.service = some { entry := e, late := late }) :
    expiry s = if late then s else lookAtHead (finishExpiry { entry := e, late := late } s) := by
  rw [expiry, h]

theorem overdueRequest_of_service {late : Bool} (h : s.scheduler.service = some { entry := e, late := late }) :
    overdueRequest s = if late then walkOn (endExpiry { entry := e, late := late } s) else s := by
  rw [overdueRequest, h]

theorem overdueRequest_of_free (h : s.scheduler.service = none) :
    overdueRequest s = if s.scheduler.overdue = 0 then s else walkOn s := by
  rw [overdueRequest, h]
  by_cases hheld : s.scheduler.overdue = 0
  · rw [if_pos hheld]
    exact if_neg (by rw [listHeld, decide_eq_true_iff]; exact not_not.mpr hheld)
  · rw [if_neg hheld]
    exact if_pos (by rw [listHeld, decide_eq_true_iff]; exact hheld)

end Service

/-- The end of an expiry outside the walk, and what follows at once (R165, R170): with overdue requests waiting their walk, else a look
at the list. -/
theorem lookAtHead_finishExpiry (e : SdlEntry) (s : State) :
    let t := endExpiry { entry := e, late := false } s
    let overdue := s.scheduler.overdue + if e.code = .timeAdjust ∧ (ownerAnswer e s).status = .ok then 1 else 0
    let done : State := { t with scheduler := { t.scheduler with overdue := overdue } }
    lookAtHead (finishExpiry { entry := e, late := false } s) =
      if overdue = 0 then expiry done else overdueRequest done := by
  intro t overdue done
  obtain ⟨more, ht⟩ := endExpiry_eq { entry := e, late := false } s
  have hfree : t.scheduler = { s.scheduler with service := none } := congrArg State.scheduler ht
  have hservice : done.scheduler.service = none := congrArg Scheduler.service hfree
  have hsent : (if adjustAccepted e s = true then sendOverdue t else t) = done := by
    have hoverdue : t.scheduler.overdue = s.scheduler.overdue := by rw [hfree]
    have haccepted : adjustAccepted e s = true ↔ e.code = .timeAdjust ∧ (ownerAnswer e s).status = .ok := by
      rw [adjustAccepted, Bool.and_eq_true, decide_eq_true_iff, decide_eq_true_iff]
    by_cases h : e.code = .timeAdjust ∧ (ownerAnswer e s).status = .ok
    · rw [if_pos (haccepted.mpr h)]
      simp only [done, overdue, if_pos h, ← hoverdue]
      rfl
    · rw [if_neg fun hyes => h (haccepted.mp hyes)]
      simp only [done, overdue, if_neg h, ← hoverdue, Nat.add_zero]
  have hfinish : finishExpiry { entry := e, late := false } s = if listHeld done then walkOn done else done := by
    rw [← hsent]
    rfl
  have hheld : listHeld done = true ↔ ¬ overdue = 0 := by
    rw [listHeld, decide_eq_true_iff]
  rw [hfinish]
  by_cases h : overdue = 0
  · rw [if_neg fun hyes => hheld.mp hyes h, if_pos h, expiry_of_free hservice]
  · rw [if_pos (hheld.mpr h), if_neg h, overdueRequest_of_free hservice, if_neg h]
    exact lookAtHead_overdueWalk (Nat.le_refl _)

/-- Settles O49: with no expiry in service the scheduler looks at the head; with one, its owner answers and the scheduler goes on. -/
theorem expiryIssuesHead : Obligations.ExpiryIssuesHead := by
  intro s
  refine ⟨fun hfree => ⟨fun hidle => congrArg Host.Outcome.next ?_, fun e rest hlist due hoverdue => ?_⟩,
    fun e late hservice => ⟨fun hlate => congrArg Host.Outcome.next ?_, fun hlate hadmissible => ?_⟩⟩
  · rw [expiry_of_free hfree]
    rcases hidle with hheld | hnone
    · exact lookAtHead_of_held hheld
    · exact expireDue_of_none (dueHead_eq_none hnone) _
  · have may : mayExpire s = true := by rw [mayExpire, listBusy_eq_false hoverdue hfree]; rfl
    refine ⟨fun hlater => congrArg Host.Outcome.next ?_, fun hnow => congrArg Host.Outcome.next ?_⟩
    · rw [expiry_of_free hfree, lookAtHead_of_later hlist due may (by rw [nextAnswer_eq, if_pos hlater]),
        takeHead_eq_inServiceNow hlist]
    · rw [expiry_of_free hfree, lookAtHead_of_due hlist due may (by rw [nextAnswer_eq, if_neg hnow]),
        takeHead_eq_inServiceNow hlist]
      exact (expiry_of_service (s := inServiceNow e rest false s) rfl).symm
  · rw [expiry_of_service hservice, if_pos hlate]
  · subst hlate
    obtain ⟨v, halone, hended⟩ := exists_issuedAlone s hadmissible
    refine ⟨v, _, halone, ?_⟩
    intro overdue t done
    have hdone := lookAtHead_finishExpiry e s
    rw [hended false] at hdone
    have hoverdue : t.scheduler.overdue = s.scheduler.overdue := rfl
    have hrun : expiry s = if overdue = 0 then expiry done else overdueRequest done := by
      rw [expiry_of_service hservice]
      exact hdone
    refine (congrArg Host.Outcome.next hrun).trans ?_
    split <;> rfl

/-- Settles O50: with no expiry in service the walk looks at the head; with one of its own, its owner answers and the walk goes on. -/
theorem overdueWalkExpiresDueEntries : Obligations.OverdueWalkExpiresDueEntries := by
  intro s
  refine ⟨fun hfree => ⟨fun hnone => congrArg Host.Outcome.next ?_, fun hheld =>
      ⟨fun hidle => congrArg Host.Outcome.next ?_, fun e rest hlist due => ?_⟩⟩,
    fun e late hservice => ⟨fun hlate => congrArg Host.Outcome.next ?_, fun hlate hheld hadmissible => ?_⟩⟩
  · rw [overdueRequest_of_free hfree, if_pos hnone]
  · rw [overdueRequest_of_free hfree, if_neg hheld, walkOn_of_none (dueHead_eq_none hidle)]
    rfl
  · refine ⟨fun hlater => congrArg Host.Outcome.next ?_, fun hnow => congrArg Host.Outcome.next ?_⟩
    · rw [overdueRequest_of_free hfree, if_neg hheld, walkOn_of_later hlist due (by rw [nextAnswer_eq, if_pos hlater]),
        takeHead_eq_inServiceNow hlist]
    · rw [overdueRequest_of_free hfree, if_neg hheld, walkOn_of_due hlist due (by rw [nextAnswer_eq, if_neg hnow]),
        takeHead_eq_inServiceNow hlist]
      exact (overdueRequest_of_service (s := inServiceNow e rest true s) rfl).symm
  · rw [overdueRequest_of_service hservice, hlate]
    rfl
  · subst hlate
    obtain ⟨v, halone, hended⟩ := exists_issuedAlone s hadmissible
    refine ⟨v, _, halone, congrArg Host.Outcome.next ?_⟩
    rw [overdueRequest_of_service hservice, if_pos rfl, hended true,
      overdueRequest_of_free (s := expiryEnded e true s v (ownerAnswer e s).status) rfl]
    exact (if_neg hheld).symm

end Sys2Proof.Expiry
end


section
/-! RESTART (R62, R120, R136, R137): one step of it for either scope, and the scope LANES (O42). -/

namespace Sys2Proof.Restarts

open Sys2Proof.Machine Sys2Proof.Safety Sys2Proof.Elementary

/-! ## The releases of a restart (R62, R120) -/

/-- References released one after another, as the statements write them. -/
def releaseAll (refs : List Nat) (s : State) : State := refs.foldl (fun u ref => release ref u) s

theorem applyEffects_map_release (refs : List Nat) (s : State) : applyEffects (refs.map .release) s = releaseAll refs s := by
  induction refs generalizing s with
  | nil => rfl
  | cons ref refs ih => exact ih (release ref s)

/-- A lane releases the blocks it holds (R48, R120). -/
theorem restartReleases_eq (x : Lane) : restartReleases x = (blocksHeld x).map .release := by
  have hframe : frameRelease x = (x.frame.toList.flatMap fun f => f.block.toList).map .release := by
    rw [frameRelease]
    cases x.frame with
    | none => rfl
    | some f => simp
  rw [restartReleases, blocksHeld, hframe, releasesOf, releasesOf, List.map_append, List.map_append, List.map_map, List.map_map]
  rfl

theorem releaseAll_append (as bs : List Nat) (s : State) : releaseAll (as ++ bs) s = releaseAll bs (releaseAll as s) :=
  List.foldl_append

theorem releaseAll_setLane (refs : List Nat) (l : LaneId) (y : Lane) (s : State) :
    releaseAll refs (setLane l y s) = setLane l y (releaseAll refs s) := by
  rw [← applyEffects_map_release, ← applyEffects_map_release, applyEffects_setLane]

theorem releaseAll_beside (refs : List Nat) (c : Control) (k : Scheduler) (s : State) :
    releaseAll refs (Expiry.beside c k s) = Expiry.beside c k (releaseAll refs s) := by
  rw [← applyEffects_map_release, ← applyEffects_map_release, Expiry.applyEffects_beside]

/-- Releases touch the store and the requests alone. -/
theorem releaseAll_eq (refs : List Nat) (s : State) :
    releaseAll refs s = { s with store := (releaseAll refs s).store, requests := (releaseAll refs s).requests } := by
  rw [← applyEffects_map_release]
  exact applyEffects_eq _ s

theorem afterReleases_scheduler (s : State) : (afterReleases s).scheduler = s.scheduler := by
  change (releaseAll _ s).scheduler = _
  rw [releaseAll_eq]

theorem afterReleases_control (s : State) : (afterReleases s).control = s.control := by
  change (releaseAll _ s).control = _
  rw [releaseAll_eq]

/-- Lanes that restart in turn: their blocks are released in order, and each lane is as its restart leaves it (R97, R120). -/
theorem foldl_restartLane (scope : RestartScope) {ls : List LaneId} (hls : ls.Nodup) (s : State) :
    (∃ lanes, ls.foldl (restartLane scope) s =
      { releaseAll (ls.flatMap fun l => blocksHeld (laneOf s l)) s with lanes := lanes }) ∧
    ∀ k, laneOf (ls.foldl (restartLane scope) s) k = if k ∈ ls then laneAfterRestart scope (laneOf s k) else laneOf s k := by
  induction ls generalizing s with
  | nil => exact ⟨⟨s.lanes, rfl⟩, fun k => (if_neg List.not_mem_nil).symm⟩
  | cons l ls ih =>
    obtain ⟨hl, hls⟩ := List.nodup_cons.mp hls
    have hstep : restartLane scope s l =
        setLane l (laneAfterRestart scope (laneOf s l)) (releaseAll (blocksHeld (laneOf s l)) s) := by
      rw [restartLane, applyEffects_setLane, restartReleases_eq, applyEffects_map_release]
    have hother {k : LaneId} (hk : k ≠ l) : laneOf (restartLane scope s l) k = laneOf s k := by
      rw [hstep, laneOf_setLane_other hk, releaseAll_eq]
      rfl
    have hblocks : (ls.flatMap fun k => blocksHeld (laneOf (restartLane scope s l) k)) =
        ls.flatMap fun k => blocksHeld (laneOf s k) :=
      List.flatMap_congr fun k hk => by rw [hother fun h => hl (h ▸ hk)]
    obtain ⟨⟨lanes, hstate⟩, hlanes⟩ := ih hls (restartLane scope s l)
    refine ⟨⟨lanes, ?_⟩, fun k => ?_⟩
    · rw [List.foldl_cons, hstate, hblocks, hstep, List.flatMap_cons, releaseAll_append, releaseAll_setLane]
      rfl
    · rw [List.foldl_cons, hlanes k]
      by_cases hk : k = l
      · subst hk
        rw [if_neg hl, if_pos List.mem_cons_self, hstep, laneOf_setLane_same]
      · rw [hother hk]
        by_cases hmem : k ∈ ls
        · rw [if_pos hmem, if_pos (List.mem_cons_of_mem _ hmem)]
        · rw [if_neg hmem, if_neg fun h => (List.mem_cons.mp h).elim hk hmem]

/-! ## The lanes of one step (log entry 27) -/

/-- The RESTART as it stands in this step. -/
def standing (scope : RestartScope) (s : State) : RestartInProgress := { scope := scope, waiting := unanswered s }

theorem turnOf_standing (scope : RestartScope) {s b : State} (h : b.surroundings = s.surroundings) :
    turnOf (standing scope s) b = answering s := by
  rw [turnOf, answering, h]
  exact List.filter_congr fun l _ => List.contains_eq_mem l _

theorem waiting_standing (scope : RestartScope) {s b : State} (h : b.surroundings = s.surroundings) :
    ((standing scope s).waiting.filter fun l => !(turnOf (standing scope s) b).contains l) = leftWaiting s := by
  rw [turnOf_standing scope h, leftWaiting]
  exact List.filter_congr fun l _ => by rw [List.contains_eq_mem, decide_not]

/-- The lanes that have not yet answered are pairwise different. -/
theorem nodup_unanswered {s : State} (h : RestartOk s) : (unanswered s).Nodup := by
  unfold unanswered
  cases hr : s.control.restart with
  | none => exact List.nodup_finRange 16
  | some r =>
    obtain ⟨-, hnodup, -⟩ := h r (Option.mem_toList.mpr hr)
    exact hnodup

/-- The lanes after this step (R97, R120). -/
def lanesAfter (scope : RestartScope) (s : State) : Vector Lane 16 :=
  Vector.ofFn fun l => if l ∈ answering s then laneAfterRestart scope (laneOf s l) else laneOf s l

/-- The part after the restarts of the lanes that serve theirs in this step, but for the control unit and the scheduler (R62, R120). -/
def steppedPart (scope : RestartScope) (s : State) : State :=
  { afterReleases s with
    lanes := lanesAfter scope s
    surroundings := { s.surroundings with restarts := s.surroundings.restarts.tail } }

theorem laneOf_steppedPart (scope : RestartScope) (s : State) (l : LaneId) :
    laneOf (steppedPart scope s) l = if l ∈ answering s then laneAfterRestart scope (laneOf s l) else laneOf s l := by
  unfold laneOf steppedPart lanesAfter
  dsimp only
  rw [Fin.getElem_fin, Vector.getElem_ofFn]
  rfl

/-- One step of a RESTART from a part that differs from s at the control unit and the scheduler alone (R62, R120). -/
theorem restartLanes_beside (scope : RestartScope) {s : State} (hok : RestartOk s) (c : Control) (k : Scheduler) :
    restartLanes (standing scope s) (Expiry.beside c k s) =
      Expiry.beside { c with restart := some { scope := scope, waiting := leftWaiting s } } k (steppedPart scope s) := by
  have hturn := turnOf_standing scope (s := s) (b := Expiry.beside c k s) rfl
  have hnodup : (answering s).Nodup := (nodup_unanswered hok).filter _
  obtain ⟨⟨lanes, hstate⟩, hlanes⟩ := foldl_restartLane scope hnodup (Expiry.beside c k s)
  have hafter : lanes = lanesAfter scope s := by
    refine Placement.lanes_ext fun l => ?_
    have hl := hlanes l
    rw [hstate] at hl
    have hright : (lanesAfter scope s)[l] =
        if l ∈ answering s then laneAfterRestart scope (laneOf s l) else laneOf s l := laneOf_steppedPart scope s l
    rw [hright]
    exact hl
  have hreleases : releaseAll ((answering s).flatMap fun l => blocksHeld (laneOf (Expiry.beside c k s) l))
      (Expiry.beside c k s) = Expiry.beside c k (afterReleases s) := releaseAll_beside _ c k s
  rw [hreleases, hafter] at hstate
  unfold restartLanes
  rw [waiting_standing scope (s := s) (b := Expiry.beside c k s) rfl, hturn]
  dsimp only
  rw [show (standing scope s).scope = scope from rfl, hstate]
  rfl

/-! ## One step of a RESTART (R136, R137) -/

/-- A step leaves the scheduler (R120). -/
theorem beside_steppedPart (scope : RestartScope) (c : Control) (s : State) :
    Expiry.beside c s.scheduler (steppedPart scope s) = { steppedPart scope s with control := c } := by
  have hscheduler : (steppedPart scope s).scheduler = s.scheduler := by
    simp only [steppedPart, afterReleases_scheduler]
  rw [Expiry.beside, ← hscheduler]

/-- A step that leaves lanes to answer. -/
theorem advanceRestart_going {scope : RestartScope} {s b : State} {r : RestartInProgress}
    (hbegun : beginRestart scope s = b) (hr : b.control.restart = some r) {t : State} (ht : restartLanes r b = t)
    {waiting : List LaneId} (hwaiting : t.control.restart = some { scope := scope, waiting := waiting })
    (hleft : waiting ≠ []) : advanceRestart scope s = t := by
  obtain ⟨l, more, rfl⟩ := List.exists_cons_of_ne_nil hleft
  unfold advanceRestart
  rw [hbegun, hr]
  dsimp only
  rw [ht, hwaiting]

/-- The step in which the last lane answers. -/
theorem advanceRestart_last {scope : RestartScope} {s b : State} {r : RestartInProgress}
    (hbegun : beginRestart scope s = b) (hr : b.control.restart = some r) {t : State} (ht : restartLanes r b = t)
    (hwaiting : t.control.restart = some { scope := scope, waiting := [] }) :
    advanceRestart scope s = endRestart scope t := by
  unfold advanceRestart
  rw [hbegun, hr]
  dsimp only
  rw [ht, hwaiting]

/-- A RESTART that may be issued is the one in progress, when there is one (R129). -/
theorem scope_of_issuable {scope : RestartScope} {s : State} (h : issuable (restartEnvelope scope) s = true)
    {r : RestartInProgress} (hr : s.control.restart = some r) : r.scope = scope := by
  by_contra hne
  have hdiffers : restartEnvelope scope ≠ restartEnvelope r.scope := by
    cases hscope : r.scope <;> cases scope <;> simp_all [restartEnvelope, scopeCode]
  rw [issuable_of_restart hr hdiffers] at h
  exact Bool.false_ne_true h

/-- RESTART with scope LANES begun, or in progress (R136). -/
theorem beginRestart_lanes {s : State} (h : issuable (restartEnvelope .lanes) s = true) :
    beginRestart .lanes s =
      Expiry.beside { s.control with restart := some (standing .lanes s) } s.scheduler s := by
  unfold beginRestart standing unanswered
  cases hr : s.control.restart with
  | none => rfl
  | some r =>
    have hscope := scope_of_issuable h hr
    obtain ⟨scope, waiting⟩ := r
    subst hscope
    have hsame : ({ s.control with restart := some { scope := .lanes, waiting := waiting } } : Control) = s.control := by
      rw [← hr]
    exact congrArg (fun c => Expiry.beside c s.scheduler s) hsame.symm

/-! ## RESTART with scope LANES (R136) -/

/-- RESTART with another parameter than 1 and 2 (R136, R145). -/
theorem formRestart_badParam {w : Word} (h1 : w ≠ 1) (h2 : w ≠ 2) : formRestart [w] = .error .badParam := by
  rw [formRestart, if_neg h1, if_neg h2]

/-- A lane holds nothing, in the words of the statements (R48). -/
theorem holdsNothing_iff_blocksHeld {x : Lane} : holdsNothing x = true ↔ blocksHeld x = [] := by
  rw [holdsNothing_iff, blocksHeld, List.append_eq_nil_iff, List.append_eq_nil_iff, List.map_eq_nil_iff, List.map_eq_nil_iff,
    and_assoc]
  refine and_congr_right' (and_congr (by cases x.held <;> simp) ?_)
  cases x.frame with
  | none => simp
  | some f => cases f.block <;> simp

/-- The store's own restart (R62). -/
theorem restartStore_of_empty {s : State} (h : ∀ l, blocksHeld (laneOf s l) = []) :
    restartStore s = { s with store := { records := [], freeCells := 1024, freeRecords := 512, fullFlag := false } } :=
  if_pos (List.all_eq_true.mpr fun l _ => (holdsNothing_iff_blocksHeld).mpr (h l))

/-- The store's own restart while a lane holds a block (log entry 27). -/
theorem restartStore_of_held {s : State} (h : ∃ l, blocksHeld (laneOf s l) ≠ []) :
    restartStore s = { s with store := { s.store with fullFlag := false } } :=
  if_neg fun hall => by
    obtain ⟨l, hl⟩ := h
    exact hl ((holdsNothing_iff_blocksHeld).mp (List.all_eq_true.mp hall l (List.mem_finRange l)))

theorem endRestart_lanes (c : Control) (u : State) :
    endRestart .lanes { u with control := c } =
      conclude restartEntry
        (request (.unitRestarted .lanes) (restartStore { u with control := { c with restart := none } })) := rfl

/-- Settles O42: a step of the restart, then its end when no lane is left. -/
theorem restartLanesEmptiesLanes : Obligations.RestartLanesEmptiesLanes := by
  intro s
  refine ⟨fun w h1 h2 hissue => ?_, fun r i e hr he hother => ?_, fun hissue hok => ?_⟩
  · have hanswer := Transport.next_issueDirective_of_serve hissue (serve := fun _ _ t => refuse .badParam t)
      (a := refuse .badParam s) rfl
    refine Eq.trans ?_ hanswer
    change Host.Outcome.next (match formRestart [w] with
      | .ok scope => issueRestart scope s
      | .error st => issueDirective .restart [w] (fun _ _ t => refuse st t) s) = _
    rw [formRestart_badParam h1 h2]
  · refine Inquiries.exec_of_not_issuable he (issuable_of_restart hr fun heq => hother (heq.trans ?_))
    cases r.scope <;> rfl
  · have hissuable : issuable (restartEnvelope .lanes) s = true := hissue
    have hrun : exec (.restartLanes [1]) s = .next (advanceRestart .lanes s) :=
      congrArg Host.Outcome.next (if_pos hissuable)
    have hbegun := beginRestart_lanes hissuable
    have hstep := restartLanes_beside .lanes hok { s.control with restart := some (standing .lanes s) } s.scheduler
    rw [beside_steppedPart] at hstep
    refine ⟨steppedPart .lanes s, rfl, fun l => laneOf_steppedPart .lanes s l, fun hleft => ?_, fun hlast => ?_⟩
    · rw [hrun, advanceRestart_going hbegun rfl hstep rfl hleft]
    · rw [hlast] at hstep
      have hend {t : State}
          (ht : restartStore { steppedPart .lanes s with control := { s.control with restart := none } } = t) :
          exec (.restartLanes [1]) s = .next (answered .restart .ok [] (request (.unitRestarted .lanes) t)) := by
        rw [hrun, advanceRestart_last hbegun rfl hstep rfl, endRestart_lanes, ← ht]
        rfl
      generalize steppedPart .lanes s = u at hend ⊢
      intro done
      exact ⟨fun hempty => hend (restartStore_of_empty hempty), fun hheld => hend (restartStore_of_held hheld)⟩

end Sys2Proof.Restarts
end


section
/-! RESTART with scope FULL (O43). -/

namespace Sys2Proof.Restarts

open Sys2Proof.Machine Sys2Proof.Safety Sys2Proof.Elementary

/-! ## The expiry in service ends first (R175) -/

/-- No expiry is in service, and the surroundings let every owner answer at once. -/
def settled (s : State) : Prop := s.scheduler.service = none ∧ s.surroundings.answers = []

theorem settled_endExpiry {s : State} (h : s.surroundings.answers = []) (x : ExpiryInService) : settled (endExpiry x s) := by
  obtain ⟨more, heq⟩ := endExpiry_eq x s
  rw [heq]
  exact ⟨rfl, h⟩

theorem answers_takeHead {s : State} (h : s.surroundings.answers = []) (late : Bool) :
    (takeHead late s).surroundings.answers = [] := by
  unfold takeHead
  split
  · exact h
  · exact congrArg List.tail h

theorem nextAnswer_of_settled {s : State} (h : settled s) : nextAnswer s = .atOnce := by
  rw [nextAnswer, h.2]
  rfl

theorem settled_overdueWalk {s : State} (h : settled s) (n : Nat) : settled (overdueWalk n s) := by
  induction n generalizing s with
  | zero => exact h
  | succ n ih =>
    rw [overdueWalk, nextAnswer_of_settled h]
    cases dueHead s with
    | none => exact h
    | some e => exact ih (settled_endExpiry (answers_takeHead h.2 true) _)

theorem settled_finishExpiry {s : State} (h : s.surroundings.answers = []) (x : ExpiryInService) :
    settled (finishExpiry x s) := by
  have hended := settled_endExpiry h x
  have hsent : settled (if adjustAccepted x.entry s then sendOverdue (endExpiry x s) else endExpiry x s) := by
    split
    · exact hended
    · exact hended
  have hwalked {t : State} (ht : settled t) : settled (if listHeld t then walkOn t else t) := by
    split
    · exact settled_overdueWalk ht _
    · exact ht
  exact hwalked hsent

theorem settled_expireDue {s : State} (h : settled s) (n : Nat) : settled (expireDue n s) := by
  induction n generalizing s with
  | zero => exact h
  | succ n ih =>
    rw [expireDue, nextAnswer_of_settled h]
    split
    · cases dueHead s with
      | none => exact h
      | some e => exact ih (settled_finishExpiry (answers_takeHead h.2 false) _)
    · exact h

/-- The step that ends the expiry in service when every owner answers at once. -/
def endingService (x : ExpiryInService) (s : State) : State :=
  (if x.late then overdueRequest else expiry) { s with surroundings := { s.surroundings with answers := [] } }

theorem exec_endingService (x : ExpiryInService) (s : State) :
    exec (if x.late then .overdueRequest else .expiry) { s with surroundings := { s.surroundings with answers := [] } } =
      .next (endingService x s) := by
  unfold endingService
  split <;> rfl

theorem settled_endingService {x : ExpiryInService} {s : State} (h : s.scheduler.service = some x) :
    settled (endingService x s) := by
  unfold endingService
  split
  · next hlate =>
    have hrun := Expiry.overdueRequest_of_service (e := x.entry) (late := x.late)
      (s := { s with surroundings := { s.surroundings with answers := [] } }) h
    rw [hrun, if_pos hlate]
    exact settled_overdueWalk (settled_endExpiry rfl _) _
  · next hlate =>
    have hrun := Expiry.expiry_of_service (e := x.entry) (late := x.late)
      (s := { s with surroundings := { s.surroundings with answers := [] } }) h
    rw [hrun, if_neg hlate]
    exact settled_expireDue (settled_finishExpiry rfl _) _

/-- The end of an expiry leaves the control unit (R170). -/
theorem endingService_control (x : ExpiryInService) (s : State) : (endingService x s).control = s.control := by
  unfold endingService
  split
  · exact (Reception.keepsControl_moves (moves_overdueRequest (G := Scope.all fun _ => True) trivial trivial _)).control
  · exact (Reception.keepsControl_moves (moves_expiry (G := Scope.all fun _ => True) trivial trivial _)).control

/-- A RESTART depends on what stands when it has begun. -/
theorem advanceRestart_congr {scope : RestartScope} {s t b : State} (hs : beginRestart scope s = b) (ht : beginRestart scope t = b)
    (hb : b.control.restart ≠ none) : advanceRestart scope s = advanceRestart scope t := by
  unfold advanceRestart
  rw [hs, ht]
  cases hr : b.control.restart with
  | none => exact absurd hr hb
  | some r => rfl

/-- RESTART FULL with an expiry in service is RESTART FULL after the end of that expiry (R175). -/
theorem exec_restartFull_of_service {s : State} {x : ExpiryInService} (hissue : issuable (restartEnvelope .full) s = true)
    (hnone : s.control.restart = none) (hservice : s.scheduler.service = some x) :
    exec .restartFull s = exec .restartFull { endingService x s with surroundings := s.surroundings } := by
  generalize hw : ({ endingService x s with surroundings := s.surroundings } : State) = w
  have hcontrol : w.control = s.control := by
    rw [← hw]
    exact endingService_control x s
  have hfree : w.scheduler.service = none := by
    rw [← hw]
    exact (settled_endingService hservice).1
  have hissue' : issuable (restartEnvelope .full) w = true := by
    rw [issuable, awaited, hcontrol]
    exact hissue
  have hafter : afterService s = w := by
    rw [afterService, hservice, ← hw]
    rfl
  have hafter' : afterService w = w := by rw [afterService, hfree]
  have hs : beginRestart .full s =
      setControl { w.control with restart := some { scope := .full, waiting := List.finRange 16 } }
        (setScheduler resetScheduler w) := by
    rw [beginRestart, hnone]
    simp only [restartScheduler, hafter]
    rfl
  have hw' : beginRestart .full w =
      setControl { w.control with restart := some { scope := .full, waiting := List.finRange 16 } }
        (setScheduler resetScheduler w) := by
    rw [beginRestart, hcontrol, hnone]
    simp only [restartScheduler, hafter']
    rw [setScheduler_control, hcontrol]
  have hsame := advanceRestart_congr hs hw' (Option.some_ne_none _)
  exact congrArg Host.Outcome.next ((if_pos hissue).trans (hsame.trans (if_pos hissue').symm))

/-! ## The notices that wait are served before the report generator's restart (log entry 11) -/

/-- Notices served one after another touch the report generator alone (R180). -/
theorem foldl_serveNotice_eq (ns : List Notice) (s : State) :
    ns.foldl (fun t n => serveNotice n t) s = { s with reports := (ns.foldl (fun t n => serveNotice n t) s).reports } := by
  induction ns generalizing s with
  | nil => rfl
  | cons n ns ih =>
    rw [List.foldl_cons, ih, serveNotice_eq]

/-- The report generator's judgement of a notice depends on itself, the time base and the unit address (R180, R182). -/
theorem serveNotice_reports_congr {s t : State} (hreports : s.reports = t.reports) (htime : s.time = t.time)
    (hunit : s.control.unitAddr = t.control.unitAddr) (n : Notice) : (serveNotice n s).reports = (serveNotice n t).reports := by
  unfold serveNotice noticeAdmissible
  rw [hreports]
  split
  · rw [admitNotice_eq, admitNotice_eq, pushReport_eq, pushReport_eq]
    simp only [hreports, htime, hunit]
  · rw [refuseNotice_eq, refuseNotice_eq]
    simp only [hreports]

theorem foldl_serveNotice_congr (ns : List Notice) {s t : State} (hreports : s.reports = t.reports) (htime : s.time = t.time)
    (hunit : s.control.unitAddr = t.control.unitAddr) :
    (ns.foldl (fun t n => serveNotice n t) s).reports = (ns.foldl (fun t n => serveNotice n t) t).reports := by
  induction ns generalizing s t with
  | nil => exact hreports
  | cons n ns ih =>
    have htime' : (serveNotice n s).time = (serveNotice n t).time := by
      rw [serveNotice_eq n s, serveNotice_eq n t]
      exact htime
    have hunit' : (serveNotice n s).control.unitAddr = (serveNotice n t).control.unitAddr := by
      rw [serveNotice_eq n s, serveNotice_eq n t]
      exact hunit
    exact ih (serveNotice_reports_congr hreports htime hunit n) htime' hunit'

/-- Notices each served by its own NOTICE_REQUEST (R180). -/
theorem servedInTurn_eq (ns : List Notice) (s : State) :
    servedInTurn ns s = ns.foldl (fun t n => serveNotice n t) { s with requests := [] } := by
  unfold servedInTurn
  have hfold : ∀ t : State, t.requests = [] →
      ns.foldl (fun u n =>
        match exec (.noticeRequest n) u with
        | .next v => v
        | .fault _ => u
        | .refused _ => u) t = ns.foldl (fun t n => serveNotice n t) t := by
    induction ns with
    | nil => exact fun _ _ => rfl
    | cons n ns ih =>
      intro t ht
      have hserve : noticeRequest n t = serveNotice n t := by
        have hsame : setRequests [] t = t := by
          rw [setRequests, ← ht]
        rw [noticeRequest, ht, if_neg (by simp [mustWait]), List.erase_nil, hsame]
      have hstep : exec (.noticeRequest n) t = .next (serveNotice n t) := congrArg Host.Outcome.next hserve
      rw [List.foldl_cons, List.foldl_cons, hstep]
      refine ih _ ?_
      rw [serveNotice_eq]
      exact ht
  exact hfold _ rfl

/-! ## The report generator's restart (R187) -/

/-- UNIT_RESTARTED as it is admitted after RESTART FULL (R186, R187). -/
theorem stampUnset_unitRestarted (unit : BitVec 6) :
    stampUnset false (noticePayload unit 0 (.unitRestarted .full)) = [0x8800 ||| unit.setWidth 16, 0x0801, 0, 1, 3] := by
  revert unit
  decide

/-- The transmission after a restart with at least one report admitted (R183, R187). -/
theorem linkAfterRestart_eq (r : Reports) :
    linkAfterRestart r = if detachedLink r = .quiet ∧ r.hold = false then .head else detachedLink r := by
  unfold linkAfterRestart detachedLink
  rcases r.link with _ | _ | x
  · cases r.hold <;> rfl
  · cases r.queue with
    | nil => cases r.hold <;> rfl
    | cons y more => rfl
  · rfl

/-- Step 5 of R137, while the time base is UNSET: the response when one is wanted, then UNIT_RESTARTED. -/
theorem restartReports_eq (response : Option (List Word)) {s : State} (htime : s.time = { tb := 0, isSet := false }) :
    restartReports response s =
      { s with
        reports :=
          { queue :=
              (response.toList.map fun payload =>
                { kind := .response, seq := s.reports.seq, pts := 0, payload := orFirst 0x8000 payload }) ++
              [{ kind := .notice, seq := s.reports.seq + BitVec.ofNat 16 response.toList.length, pts := 0
                 payload := [0x8800 ||| s.control.unitAddr.setWidth 16, 0x0801, 0, 1, 3] }]
            seq := s.reports.seq + BitVec.ofNat 16 response.toList.length + 1
            mask := 0xFF, suppressed := 0, reserved := false, link := linkAfterRestart s.reports
            hold := s.reports.hold } } := by
  have htb : s.time.tb = 0 := congrArg TimeBase.tb htime
  have hunset : s.time.isSet = false := congrArg TimeBase.isSet htime
  have hlink : (if linkAfterRestart s.reports = .quiet ∧ s.reports.hold = false then RptLink.head else linkAfterRestart s.reports) =
      linkAfterRestart s.reports := by
    rw [linkAfterRestart_eq]
    cases s.reports.hold
    · cases detachedLink s.reports <;> rfl
    · simp
  cases response with
  | none =>
    have hseq : s.reports.seq + BitVec.ofNat 16 0 = s.reports.seq := BitVec.add_zero _
    simp only [restartReports, pushResponse, admitNotice_eq, pushReport_eq, setReports, emptiedReports, htb, hunset,
      stampUnset_unitRestarted, ← linkAfterRestart_eq, Option.toList_none, List.map_nil, List.nil_append, List.length_nil, hseq]
  | some payload =>
    have hstamp : stampUnset false payload = orFirst 0x8000 payload := rfl
    simp only [restartReports, pushResponse, admitNotice_eq, pushReport_eq, setReports, emptiedReports, htb, hunset, hstamp,
      stampUnset_unitRestarted, ← linkAfterRestart_eq, hlink, Option.toList_some, List.map_cons, List.map_nil,
      List.nil_append, List.length_singleton]
    rfl

/-! ## The end of RESTART FULL (R137) -/

/-- The block that carries RESTART FULL, with its response (R137 step 3); none when it is issued alone. -/
def carriedBy (c : Control) : List (IntakeEntry × List Word) :=
  match c.execution, c.intake with
  | some x, b :: _ => [(b, restartResponse c b x)]
  | _, _ => []

/-- The reply cache after RESTART FULL (R137 step 4). -/
def carriedEntry (c : IntakeEntry × List Word) : CacheEntry :=
  { origin := c.1.origin, seq := c.1.seq, port := c.1.port, sweep := 0, response := c.2 }

/-- The end of RESTART FULL, by the block that carries it. -/
theorem endRestartFull_eq (s : State) :
    endRestartFull s =
      restartReports (((carriedBy s.control).filter fun c => replyWanted c.1.payload).head?.map (·.2))
        (setControl (restartedControl s.control ((carriedBy s.control).map carriedEntry) restartEntry)
          (drainRequests (restartStore (restartBeside s)))) := by
  cases hx : s.control.execution with
  | none =>
    have hcarried : carriedBy s.control = [] := by rw [carriedBy, hx]
    rw [endRestartFull, hx, hcarried]
    rfl
  | some x =>
    cases hb : s.control.intake with
    | nil =>
      have hcarried : carriedBy s.control = [] := by rw [carriedBy, hx, hb]
      rw [endRestartFull, hx, hb, hcarried]
      rfl
    | cons b rest =>
      have hcarried : carriedBy s.control = [(b, restartResponse s.control b x)] := by rw [carriedBy, hx, hb]
      rw [endRestartFull, hx, hb, hcarried]
      cases hwanted : replyWanted b.payload <;> simp [hwanted, carriedEntry]

/-- All that is restarted beside the control unit and the report generator, when the lanes have been (R21, R46, R62, R73). -/
theorem drainRequests_restarted {s : State} (h : ∀ l, laneOf s l = resetLane) :
    drainRequests (restartStore (restartBeside s)) =
      { s with
        ports := ⟨restartPort s.ports.a, restartPort s.ports.b⟩, classifier := resetClassifier, store := emptyStore
        lanes := Vector.replicate 16 resetLane, time := resetTime, requests := []
        reports := (servedInTurn s.requests { s with time := resetTime }).reports } := by
  have hlanes : s.lanes = Vector.replicate 16 resetLane := by
    refine Placement.lanes_ext fun l => ?_
    rw [Fin.getElem_fin, Fin.getElem_fin, Vector.getElem_replicate]
    exact h l
  have hstore : restartStore (restartBeside s) = { restartBeside s with store := emptyStore } :=
    restartStore_of_empty fun l => by
      rw [show laneOf (restartBeside s) l = resetLane from h l]
      rfl
  generalize hpart : ({ restartBeside s with store := emptyStore } : State) = part at hstore
  have hreports : (part.requests.foldl (fun t n => serveNotice n t) part).reports =
      (servedInTurn s.requests { s with time := resetTime }).reports := by
    rw [servedInTurn_eq, ← hpart]
    exact foldl_serveNotice_congr _ rfl rfl rfl
  rw [hstore, drainRequests, foldl_serveNotice_eq, hreports, ← hpart]
  simp only [setRequests, restartBeside, setTime, setClassifier, hlanes]

/-- RESTART with scope FULL begun, or in progress (R137, R175). -/
theorem beginRestart_full {s : State} (h : issuable (restartEnvelope .full) s = true) (hok : RestartOk s)
    (hfree : s.control.restart = none → s.scheduler.service = none) :
    beginRestart .full s =
      Expiry.beside { s.control with restart := some (standing .full s) } resetScheduler s := by
  unfold beginRestart standing unanswered
  cases hr : s.control.restart with
  | none =>
    have hafter : afterService s = s := by rw [afterService, hfree hr]
    simp only [restartScheduler, hafter]
    rfl
  | some r =>
    have hscope := scope_of_issuable h hr
    obtain ⟨-, -, hfull⟩ := hok r (Option.mem_toList.mpr hr)
    obtain ⟨hscheduler, -⟩ := hfull hscope
    obtain ⟨scope, waiting⟩ := r
    subst hscope
    have hsame : ({ s.control with restart := some { scope := .full, waiting := waiting } } : Control) = s.control := by
      rw [← hr]
    have hpart : s = Expiry.beside s.control resetScheduler s := by
      rw [Expiry.beside, resetScheduler, ← hscheduler]
    exact hpart.trans (congrArg (fun c => Expiry.beside c resetScheduler s) hsame.symm)

/-- When no lane is left to answer, every lane is as RESTART FULL leaves it (R97, R120). -/
theorem laneOf_steppedPart_last {s : State} (h : issuable (restartEnvelope .full) s = true) (hok : RestartOk s)
    (hlast : leftWaiting s = []) (l : LaneId) : laneOf (steppedPart .full s) l = resetLane := by
  rw [laneOf_steppedPart]
  split
  · rfl
  · next hl =>
    have hnot : l ∉ unanswered s := fun hmem =>
      List.filter_eq_nil_iff.mp hlast l hmem (decide_eq_true hl)
    cases hr : s.control.restart with
    | none =>
      rw [unanswered, hr] at hnot
      exact absurd (List.mem_finRange l) hnot
    | some r =>
      obtain ⟨-, -, hfull⟩ := hok r (Option.mem_toList.mpr hr)
      rw [unanswered, hr] at hnot
      exact ((hfull (scope_of_issuable h hr)).2 l).resolve_left hnot

/-- The directives behind RESTART FULL in its block are NOT_RUN (R137 step 3). -/
theorem carriedBy_eq (c : Control) :
    carriedBy c =
      match c.execution, c.intake with
      | some x, b :: _ =>
        [(b, responseOf c.unitAddr b 0
          (x.entries ++ [{ code := 5, status := .ok, results := [] }] ++
            x.todo.tail.map fun e => { code := e.code, status := .notRun, results := [] }))]
      | _, _ => [] := by
  unfold carriedBy
  cases c.execution with
  | none => rfl
  | some x =>
    cases c.intake with
    | nil => rfl
    | cons b rest =>
      simp only [restartResponse, responsePayload_eq]
      rfl

/-- One block at most carries RESTART FULL. -/
theorem toList_head?_carriedBy (c : Control) (p : IntakeEntry × List Word → Bool) :
    (((carriedBy c).filter p).head?.map (·.2)).toList = ((carriedBy c).filter p).map (·.2) := by
  have hshort : ((carriedBy c).filter p).length ≤ 1 := by
    refine (List.length_filter_le _ _).trans ?_
    unfold carriedBy
    split
    · exact Nat.le_refl 1
    · exact Nat.zero_le 1
  generalize (carriedBy c).filter p = wanted at hshort
  match wanted, hshort with
  | [], _ => rfl
  | [_], _ => rfl

/-- Notices served keep RPT_HOLD (R180, R183). -/
theorem servedInTurn_hold (ns : List Notice) (s : State) : (servedInTurn ns s).reports.hold = s.reports.hold := by
  have hserve (n : Notice) (t : State) : (serveNotice n t).reports.hold = t.reports.hold := by
    unfold serveNotice
    split
    · rw [admitNotice_eq, pushReport_eq]
    · rfl
  rw [servedInTurn_eq]
  have hfold : ∀ t : State, (ns.foldl (fun t n => serveNotice n t) t).reports.hold = t.reports.hold := by
    induction ns with
    | nil => exact fun _ => rfl
    | cons n ns ih => exact fun t => (ih _).trans (hserve n t)
  exact hfold _

/-- The part at the end of RESTART FULL (R137), its lanes restarted already. -/
theorem endRestartFull_whole {s : State} (h : ∀ l, laneOf s l = resetLane) {before : Reports}
    (hbefore : (servedInTurn s.requests { s with time := resetTime }).reports = before) :
    let wanted := (carriedBy s.control).filter fun c => replyWanted c.1.payload
    endRestartFull s =
      { ports := ⟨restartPort s.ports.a, restartPort s.ports.b⟩, classifier := resetClassifier, store := emptyStore
        lanes := Vector.replicate 16 resetLane, time := resetTime, scheduler := s.scheduler
        control := restartedControl s.control ((carriedBy s.control).map carriedEntry) restartEntry
        reports :=
          { queue :=
              (wanted.map fun c => { kind := .response, seq := before.seq, pts := 0, payload := orFirst 0x8000 c.2 }) ++
                [{ kind := .notice, seq := before.seq + BitVec.ofNat 16 wanted.length, pts := 0
                   payload := [0x8800 ||| s.control.unitAddr.setWidth 16, 0x0801, 0, 1, 3] }]
            seq := before.seq + BitVec.ofNat 16 wanted.length + 1
            mask := 0xFF, suppressed := 0, reserved := false, link := linkAfterRestart before, hold := s.reports.hold }
        offers := s.offers, requests := [], surroundings := s.surroundings, pending := s.pending } := by
  intro wanted
  have hhold : before.hold = s.reports.hold := hbefore ▸ servedInTurn_hold _ _
  rw [endRestartFull_eq, drainRequests_restarted h, hbefore, restartReports_eq _ rfl, toList_head?_carriedBy, List.map_map,
    List.length_map, ← hhold]
  rfl

/-- The part after a step of RESTART FULL, but for the control unit (R62, R97, R120, R175). -/
def restartedFull (s : State) : State :=
  { s with
    store := (afterReleases s).store, requests := (afterReleases s).requests, lanes := lanesAfter .full s
    scheduler := resetScheduler
    surroundings := { s.surroundings with restarts := s.surroundings.restarts.tail } }

/-- Releases touch the store and the requests alone. -/
theorem afterReleases_eq (s : State) :
    afterReleases s = { s with store := (afterReleases s).store, requests := (afterReleases s).requests } :=
  releaseAll_eq _ s

theorem steppedPart_full (c : Control) (s : State) :
    Expiry.beside c resetScheduler (steppedPart .full s) = { restartedFull s with control := c } := by
  unfold steppedPart restartedFull Expiry.beside
  generalize lanesAfter .full s = lanes
  rw [afterReleases_eq]

theorem restartedFull_eq (s : State) :
    restartedFull s =
      { afterReleases s with
        lanes := (restartedFull s).lanes
        scheduler := { list := [], nextSerial := 0, overdue := 0, service := none }
        surroundings := { s.surroundings with restarts := s.surroundings.restarts.tail } } := by
  unfold restartedFull
  generalize lanesAfter .full s = lanes
  rw [afterReleases_eq]
  rfl

/-- Settles O43: the expiry in service ends first, then a step of the restart, then its end when no lane is left. -/
theorem restartFullResetsPart : Obligations.RestartFullResetsPart := by
  intro s hissue
  have hissuable : issuable (restartEnvelope .full) s = true := hissue
  refine ⟨rfl, fun x hnone hservice => ⟨endingService x s, exec_endingService x s, (settled_endingService hservice).1,
    exec_restartFull_of_service hissuable hnone hservice⟩, fun hok hfree => ?_⟩
  have hrun : exec .restartFull s = .next (advanceRestart .full s) := congrArg Host.Outcome.next (if_pos hissuable)
  have hbegun := beginRestart_full hissuable hok hfree
  have hstep := restartLanes_beside .full hok { s.control with restart := some (standing .full s) } resetScheduler
  rw [steppedPart_full] at hstep
  refine ⟨restartedFull s, restartedFull_eq s, fun l => laneOf_steppedPart .full s l, fun hleft => ?_, fun hlast => ?_⟩
  · rw [hrun, advanceRestart_going hbegun rfl hstep rfl hleft]
  · have hlanes (l : LaneId) : laneOf (restartedFull s) l = resetLane := laneOf_steppedPart_last hissuable hok hlast l
    rw [hlast] at hstep
    have hend : exec .restartFull s =
        .next (endRestartFull { restartedFull s with control := { s.control with restart := none } }) := by
      rw [hrun, advanceRestart_last hbegun rfl hstep rfl]
      rfl
    obtain ⟨hports, hcontrol, hreports, hoffers, hpending⟩ : (restartedFull s).ports = s.ports ∧
        (restartedFull s).control = s.control ∧ (restartedFull s).reports = s.reports ∧
        (restartedFull s).offers = s.offers ∧ (restartedFull s).pending = s.pending := ⟨rfl, rfl, rfl, rfl, rfl⟩
    generalize restartedFull s = u at hlanes hend hports hcontrol hreports hoffers hpending ⊢
    have hunit : s.control.unitAddr = u.control.unitAddr := congrArg Control.unitAddr hcontrol.symm
    have hserved : (servedInTurn u.requests
        { u with control := { s.control with restart := none }, time := resetTime }).reports =
        (servedInTurn u.requests { u with time := resetTime }).reports := by
      rw [servedInTurn_eq, servedInTurn_eq]
      exact foldl_serveNotice_congr _ rfl rfl hunit
    have hwhole := endRestartFull_whole (s := { u with control := { s.control with restart := none } }) hlanes hserved
    rw [hend, hwhole, carriedBy_eq, ← hports, ← hreports, ← hoffers, ← hpending]
    rfl

end Sys2Proof.Restarts
end


section
/-! The time base and the scheduled directive list under every elementary move: what is IDLE and empty while the time base is UNSET
(R63, R73), and the list's entries and serials (R164, R166, R167). -/

namespace Sys2Proof.TimeAndList

open Sys2Proof.Machine Sys2Proof.Safety Sys2Proof.Elementary Sys2Proof.Placement Sys2Proof.ScheduledList

/-! ## What a move does to the time base and the scheduler -/

/-- What one move leaves of the time base and the scheduler of s. -/
inductive ListMove (G : Scope) (s : State) : TimeBase → Scheduler → Prop
  | same : ListMove G s s.time s.scheduler
  | timeSet (directed : G.directives) (v : Tick) (idle : allIdle s = true) :
    ListMove G s { tb := v, isSet := true } { s.scheduler with list := [] }
  | counted (clock : G.clock) (v : Tick) : ListMove G s { s.time with tb := v } s.scheduler
  | scheduled (directed : G.directives) {a : AtArgs} {d : Directive} (passes : atFailure a s = none)
    (names : directiveOf (envelopeCode a.envelope) = some d) : ListMove G s s.time (admitAt a d s).scheduler
  | cancelled (directed : G.directives) {list : List SdlEntry} (fewer : list.Sublist s.scheduler.list) :
    ListMove G s s.time { s.scheduler with list := list }
  | expiring (clock : G.clock) {e : SdlEntry} {rest : List SdlEntry} (late : Bool) (head : s.scheduler.list = e :: rest) :
    ListMove G s s.time { s.scheduler with list := rest, service := some { entry := e, late := late } }
  | answered (clock : G.clock) : ListMove G s s.time { s.scheduler with service := none }
  | overdue (clock : G.clock) (n : Nat) : ListMove G s s.time { s.scheduler with overdue := n }

theorem listMove {G : Scope} {s t : State} (h : Move G s t) : ListMove G s t.time t.scheduler := by
  have same {u : State} (htime : u.time = s.time) (hlist : u.scheduler = s.scheduler) :
      ListMove G s u.time u.scheduler := by
    rw [htime, hlist]
    exact .same
  cases h with
  | beside h => exact same (by rw [h]) (by rw [h])
  | port => exact .same
  | table => exact .same
  | lanes => exact .same
  | drop => exact same (by simp [updateLane]) (by simp [updateLane])
  | @frame l kind slot active quiet =>
    unfold beginFrame
    simp only
    split <;> exact .same
  | @stored m p room some_pass =>
    rw [foldl_insertAt (nodup_passingLanes m s)]
    exact .same
  | filled => exact .same
  | timeSet directed v idle => exact .timeSet directed v idle
  | adjusted clock => exact .counted clock _
  | ticked clock => exact .counted clock _
  | scheduled directed passes names => exact .scheduled directed passes names
  | cancelled directed fewer => exact .cancelled directed fewer
  | expiring clock late head => exact .expiring clock late head
  | answered clock => exact .answered clock
  | overdue clock n => exact .overdue clock n

/-! ## What a move does to a lane, its scope kept -/

/-- A move touches a lane, has it give up blocks, or finds it active and keeps its state. -/
theorem laneOf_move {G : Scope} {s t : State} (h : Move G s t) (l : LaneId) :
    LaneTouch G.directives (laneOf s l) (laneOf t l) ∨
      (∃ fx, LaneDrop G.directives s.time (laneOf s l) (laneOf t l) fx) ∨
        ((laneOf s l).state ≠ .idle ∧ (laneOf t l).state = (laneOf s l).state) := by
  have same {u : State} (hu : u.lanes = s.lanes) : LaneTouch G.directives (laneOf s l) (laneOf u l) := by
    have : laneOf u l = laneOf s l := by rw [laneOf, hu]; rfl
    exact this ▸ .same
  cases h with
  | beside h => exact .inl (same (by rw [h]))
  | lanes h => exact .inl (h l)
  | @drop k y fx h =>
    have : laneOf (updateLane k (y, fx) s) l = if l = k then y else laneOf s l := by
      rw [updateLane, laneOf_applyEffects, laneOf_setLane]
    rw [this]
    split
    · next hl => exact .inr (.inl ⟨fx, hl ▸ h⟩)
    · exact .inl .same
  | @frame k kind slot active quiet =>
    rw [laneOf_beginFrame]
    split
    · next hl => exact .inr (.inr ⟨hl ▸ active, hl ▸ rfl⟩)
    · exact .inl .same
  | @stored m p =>
    rw [foldl_insertAt (nodup_passingLanes m s)]
    have hof := laneOf_of_lanes (ls := passingLanes m s) (g := fun _ => insertedLane m p (nextRef s.store))
      (s := setStore (storeBlock m.payload (passingLanes m s).length s.store) s)
      (t := { setStore (storeBlock m.payload (passingLanes m s).length s.store) s with
              lanes := lanesWith (passingLanes m s) (fun _ => insertedLane m p (nextRef s.store))
                (setStore (storeBlock m.payload (passingLanes m s).length s.store) s) }) rfl l
    rw [hof]
    split
    · next hl =>
      have hpasses := (mem_passingLanes).mp hl
      simp only [lanePasses, Bool.and_eq_true] at hpasses
      exact .inr (.inr ⟨active_of_candidate hpasses.1, rfl⟩)
    · exact .inl .same
  | _ => exact .inl (same rfl)

/-! ## UNSET (R63, R73) -/

theorem idle_of_touch {D : Prop} {x y : Lane} (h : LaneTouch D x y) (idle : x.state = .idle) : y.state = .idle := by
  cases h with
  | settled old => exact absurd idle (admitting_cases old).1
  | parkedLast draining =>
    rw [idle] at draining
    cases draining
  | taken l =>
    unfold takeCommand
    split
    · exact idle
    · split
      · next hadmits => exact absurd idle (admitting_cases hadmits).1
      · exact idle
  | reanchored delta =>
    unfold reanchor
    split <;> exact idle
  | _ => exact idle

theorem idle_of_drop {D : Prop} {clock : TimeBase} {x y : Lane} {fx : List Effect} (unset : clock.isSet = false)
    (h : LaneDrop D clock x y fx) (idle : x.state = .idle) : y.state = .idle := by
  cases h with
  | cut _ isCut =>
    rw [switchSource_of_cut isCut]
    exact idle
  | started _ l accepted =>
    obtain ⟨hset, -⟩ := startFailure_eq_none accepted
    rw [unset] at hset
    cases hset
  | halted l =>
    unfold haltLane
    rw [if_pos idle]
    exact idle
  | restarted _ scope => cases scope <;> rfl
  | frameLeft => exact idle
  | selected active => exact absurd idle active
  | skipped => exact idle
  | parkedFill draining =>
    rw [idle] at draining
    cases draining

theorem ListMove.unset_before {G : Scope} {s : State} {clock : TimeBase} {k : Scheduler} (h : ListMove G s clock k)
    (unset : clock.isSet = false) : s.time.isSet = false := by
  cases h with
  | timeSet => cases unset
  | _ => exact unset

theorem ListMove.keeps_empty {G : Scope} {s : State} {clock : TimeBase} {k : Scheduler} (h : ListMove G s clock k)
    (unset : s.time.isSet = false) (empty : s.scheduler.list = []) (free : s.scheduler.service = none) :
    k.list = [] ∧ k.service = none := by
  cases h with
  | same => exact ⟨empty, free⟩
  | timeSet => exact ⟨rfl, free⟩
  | counted => exact ⟨empty, free⟩
  | scheduled _ passes names =>
    obtain ⟨hset, -⟩ := atFailure_eq_none passes names
    rw [unset] at hset
    cases hset
  | cancelled _ fewer => exact ⟨List.sublist_nil.mp (empty ▸ fewer), free⟩
  | expiring _ late head =>
    rw [empty] at head
    cases head
  | answered => exact ⟨empty, rfl⟩
  | overdue => exact ⟨empty, free⟩

theorem timeOk_move {G : Scope} {s t : State} (h : Move G s t) (hs : TimeOk s) : TimeOk t := by
  intro hunset
  have hclock := (listMove h).unset_before hunset
  obtain ⟨hidle, hempty, hservice⟩ := hs hclock
  refine ⟨fun l => ?_, (listMove h).keeps_empty hclock hempty hservice⟩
  rcases laneOf_move h l with htouch | ⟨fx, hdrop⟩ | ⟨hactive, -⟩
  · exact idle_of_touch htouch (hidle l)
  · exact idle_of_drop hclock hdrop (hidle l)
  · exact absurd (hidle l) hactive

theorem timeOk_moves {G : Scope} {s t : State} (h : Moves G s t) (hs : TimeOk s) : TimeOk t := by
  induction h with
  | refl => exact hs
  | tail _ hmove ih => exact timeOk_move hmove ih

/-! ## The list's entries and serials (R164, R166, R167) -/

/-- The scheduler's part of SdlOk that every move keeps. -/
def listOk (k : Scheduler) : Prop :=
  k.list.length ≤ 32 ∧ (k.list.map fun e => e.serial.toNat).Nodup ∧
    (∀ e ∈ k.list ++ (k.service.map fun x => x.entry).toList, e.serial.toNat ≤ 65534 ∧ admissible e.code e.params) ∧
    k.nextSerial.toNat ≤ 65534

/-- An expiry of the overdue walk is in service only while its request is. -/
def lateOk (k : Scheduler) : Prop := ∀ x ∈ k.service.toList, x.late = true → k.overdue ≠ 0

theorem sdlOk_iff {s : State} : SdlOk s ↔ listOk s.scheduler ∧ lateOk s.scheduler := by
  constructor
  · rintro ⟨hlength, hserials, hentries, hnext, hlate⟩
    exact ⟨⟨hlength, hserials, hentries, hnext⟩, hlate⟩
  · rintro ⟨⟨hlength, hserials, hentries, hnext⟩, hlate⟩
    exact ⟨hlength, hserials, hentries, hnext, hlate⟩

theorem listOk_sublist {k : Scheduler} (h : listOk k) {list : List SdlEntry} (fewer : list.Sublist k.list) :
    listOk { k with list := list } := by
  obtain ⟨hlength, hserials, hentries, hnext⟩ := h
  exact ⟨fewer.length_le.trans hlength, hserials.sublist (fewer.map _),
    fun e he => hentries e ((fewer.append_right _).subset he), hnext⟩

theorem listOk_admitAt {s : State} (h : listOk s.scheduler) {a : AtArgs} {d : Directive} (passes : atFailure a s = none)
    (names : directiveOf (envelopeCode a.envelope) = some d) : listOk (admitAt a d s).scheduler := by
  obtain ⟨hlength, hserials, hentries, hnext⟩ := h
  obtain ⟨-, -, -, hadmissible, hroom⟩ := atFailure_eq_none passes names
  obtain ⟨k, hserial, -, hfree⟩ := nextSerialFor_spec hnext hlength
  have hbound : (nextSerialFor s).toNat ≤ 65534 := by
    rw [hserial, toNat_candidateFrom]
    omega
  have hins := insertSdl_inserted s.time.tb { serial := nextSerialFor s, due := a.due, code := d, params := a.params }
    s.scheduler.list
  refine ⟨(hins.length_eq).le.trans hroom, ?_, fun e he => ?_, ?_⟩
  · refine (hins.perm.map fun e => e.serial.toNat).nodup_iff.mpr (List.nodup_cons.mpr ⟨fun hmem => ?_, hserials⟩)
    obtain ⟨e, he, heq⟩ := List.mem_map.mp hmem
    exact hfree e he ((BitVec.eq_of_toNat_eq heq).trans hserial)
  · rcases List.mem_append.mp he with hlist | hservice
    · rcases (hins.mem_iff).mp hlist with rfl | hold
      · exact ⟨hbound, hadmissible⟩
      · exact hentries e (List.mem_append_left _ hold)
    · exact hentries e (List.mem_append_right _ hservice)
  · change (serialAfter (nextSerialFor s)).toNat ≤ 65534
    rw [toNat_serialAfter hbound]
    omega

theorem ListMove.keeps_listOk {G : Scope} {s : State} {clock : TimeBase} {k : Scheduler} (h : ListMove G s clock k)
    (hs : listOk s.scheduler) : listOk k := by
  cases h with
  | same => exact hs
  | timeSet => exact listOk_sublist hs (List.nil_sublist _)
  | counted => exact hs
  | scheduled _ passes names => exact listOk_admitAt hs passes names
  | cancelled _ fewer => exact listOk_sublist hs fewer
  | @expiring _ e rest late head =>
    obtain ⟨hlength, hserials, hentries, hnext⟩ := hs
    rw [head] at hlength hserials hentries
    refine ⟨(Nat.le_succ _).trans hlength, (List.nodup_cons.mp hserials).2, fun x hx => hentries x ?_, hnext⟩
    rcases List.mem_append.mp hx with hx | hx
    · exact List.mem_append_left _ (List.mem_cons_of_mem _ hx)
    · rw [List.mem_singleton.mp hx]
      exact List.mem_append_left _ List.mem_cons_self
  | answered =>
    obtain ⟨hlength, hserials, hentries, hnext⟩ := hs
    exact ⟨hlength, hserials, fun e he => hentries e (List.mem_append_left _ (by simpa using he)), hnext⟩
  | overdue => exact hs

theorem listOk_moves {G : Scope} {s t : State} (h : Moves G s t) (hs : listOk s.scheduler) : listOk t.scheduler := by
  induction h with
  | refl => exact hs
  | tail _ hmove ih => exact (listMove hmove).keeps_listOk ih

end Sys2Proof.TimeAndList
end


section
/-! The order of the scheduled directive list (R164, R168) under the time base's moves, admissions and expiries. -/

namespace Sys2Proof.TimeAndList

open Sys2Proof.Machine Sys2Proof.Safety Sys2Proof.Elementary Sys2Proof.Placement Sys2Proof.ScheduledList

/-! ## The order of the due times -/

/-- Ticks from a time to an entry's due time, negative once it lies behind. -/
def ticksFrom (tb : Tick) (e : SdlEntry) : Int := (e.due - tb).toInt

/-- A list in the order of its due times, none of them further behind the time than b. -/
def orderedFrom (b : Int) (tb : Tick) (list : List SdlEntry) : Prop :=
  (list.map (ticksFrom tb)).Pairwise (· ≤ ·) ∧ ∀ e ∈ list, b ≤ ticksFrom tb e

theorem orderedFrom_sublist {b : Int} {tb : Tick} {list fewer : List SdlEntry} (h : orderedFrom b tb list)
    (hsub : fewer.Sublist list) : orderedFrom b tb fewer :=
  ⟨h.1.sublist (hsub.map _), fun e he => h.2 e (hsub.subset he)⟩

theorem orderedFrom_mono {b b' : Int} {tb : Tick} {list : List SdlEntry} (h : orderedFrom b tb list) (hb : b' ≤ b) :
    orderedFrom b' tb list := ⟨h.1, fun e he => hb.trans (h.2 e he)⟩

theorem orderedFrom_nil (b : Int) (tb : Tick) : orderedFrom b tb [] := ⟨.nil, by simp⟩

/-- A time that moves by a number of ticks moves the list with it. -/
theorem orderedFrom_shift {b d : Int} {tb tb' : Tick} {list : List SdlEntry} (h : orderedFrom b tb list)
    (shift : ∀ e ∈ list, ticksFrom tb' e = ticksFrom tb e - d) : orderedFrom (b - d) tb' list := by
  obtain ⟨hsorted, hbound⟩ := h
  refine ⟨?_, fun e he => ?_⟩
  · rw [List.pairwise_map] at hsorted ⊢
    refine hsorted.imp_of_mem fun {x y} hx hy hle => ?_
    rw [shift x hx, shift y hy]
    omega
  · rw [shift e he]
    have := hbound e he
    omega

/-- The distance an admission goes by (R168, log entry 12). -/
theorem dueDistance_eq {tb due : Tick} (h : -2 ^ 31 < (due - tb).toInt) : (dueDistance tb due : Int) = max 0 (due - tb).toInt := by
  have hback : (tb - due).toNat = (2 ^ 32 - (due - tb).toNat) % 2 ^ 32 := by bv_omega
  have hlt := (due - tb).isLt
  rw [BitVec.toInt_eq_toNat_cond] at h ⊢
  unfold dueDistance atOrBefore distance
  rw [hback]
  simp only [decide_eq_true_eq]
  split <;> split at h <;> split <;> omega

/-- The order of the due times by a key: for entries no further behind than b. -/
theorem orderedFrom_iff {b : Int} {tb : Tick} {list : List SdlEntry} :
    orderedFrom b tb list ↔
      (list.map fun e => (ticksFrom tb e - b).toNat).Pairwise (· ≤ ·) ∧ ∀ e ∈ list, b ≤ ticksFrom tb e := by
  refine and_congr_left fun hbound => ?_
  rw [List.pairwise_map, List.pairwise_map]
  have hkey {x y : SdlEntry} (hx : x ∈ list) (hy : y ∈ list) :
      ticksFrom tb x ≤ ticksFrom tb y ↔ (ticksFrom tb x - b).toNat ≤ (ticksFrom tb y - b).toNat := by
    have := hbound x hx
    have := hbound y hy
    omega
  exact ⟨fun h => h.imp_of_mem fun hx hy => (hkey hx hy).mp, fun h => h.imp_of_mem fun hx hy => (hkey hx hy).mpr⟩

/-- An entry ahead of TB is inserted in the order of the due times (R168). -/
theorem orderedFrom_insertSdl {b : Int} {tb : Tick} {list : List SdlEntry} (hb : -2 ^ 31 < b) (h : orderedFrom b tb list)
    {x : SdlEntry} (hx : 0 < ticksFrom tb x) (hbx : b ≤ ticksFrom tb x) : orderedFrom b tb (insertSdl tb x list) := by
  obtain ⟨hsorted, hbound⟩ := (orderedFrom_iff).mp h
  have hkey {e : SdlEntry} (he : b ≤ ticksFrom tb e) : (dueDistance tb e.due : Int) = max 0 (ticksFrom tb e) :=
    dueDistance_eq (lt_of_lt_of_le hb he)
  have hxkey := hkey hbx
  have hplace : InsertedBy (fun e => (ticksFrom tb e - b).toNat) x list (insertSdl tb x list) := by
    obtain ⟨before, behind, rfl, hinserted, hbefore, hbehind⟩ := insertSdl_inserted tb x list
    refine ⟨before, behind, rfl, hinserted, fun y hy => ?_, fun y hy => ?_⟩
    · have hle : dueDistance tb y.due ≤ dueDistance tb x.due := hbefore y hy
      have := hkey (hbound y (List.mem_append_left _ hy))
      change (ticksFrom tb y - b).toNat ≤ (ticksFrom tb x - b).toNat
      omega
    · have hlt : dueDistance tb x.due < dueDistance tb y.due := hbehind y hy
      have := hkey (hbound y (List.mem_append_right _ (List.mem_of_mem_head? (Option.mem_toList.mp hy))))
      change (ticksFrom tb x - b).toNat < (ticksFrom tb y - b).toNat
      omega
  refine (orderedFrom_iff).mpr ⟨hplace.pairwise_le hsorted, fun e he => ?_⟩
  rcases (hplace.mem_iff).mp he with rfl | he
  · exact hbx
  · exact hbound e he

/-! ## Moves that leave the clock -/

section Still

variable {G : Scope} {s : State} {clock : TimeBase} {k : Scheduler}

theorem ListMove.keeps_late (h : ListMove G s clock k) (still : ¬ G.clock) (hs : lateOk s.scheduler) : lateOk k := by
  cases h with
  | expiring clock => exact absurd clock still
  | answered clock => exact absurd clock still
  | overdue clock => exact absurd clock still
  | _ => exact hs

/-- The order of the list while the time base does not count and nothing expires. -/
theorem ListMove.keeps_order (h : ListMove G s clock k) (still : ¬ G.clock)
    (hs : orderedFrom (-2 ^ 30) s.time.tb s.scheduler.list) : orderedFrom (-2 ^ 30) clock.tb k.list := by
  cases h with
  | same => exact hs
  | timeSet => exact orderedFrom_nil _ _
  | counted clock => exact absurd clock still
  | @scheduled _ a d passes names =>
    obtain ⟨-, hpast, -⟩ := atFailure_eq_none passes names
    obtain ⟨hlow, hhigh⟩ := (strictlyAfter_iff).mp hpast
    have hahead : 0 < (a.due - s.time.tb).toInt := by
      rw [BitVec.toInt_eq_toNat_cond]
      unfold distance at hlow hhigh
      split <;> omega
    exact orderedFrom_insertSdl (by decide) hs hahead (le_trans (by decide) hahead.le)
  | cancelled _ fewer => exact orderedFrom_sublist hs fewer
  | expiring clock => exact absurd clock still
  | answered clock => exact absurd clock still
  | overdue clock => exact absurd clock still

end Still

/-! ## The time base counts, or is adjusted (R63, R68, R69) -/

/-- A time that moves by d ticks, no due time passing to the far side. -/
theorem ticksFrom_add {tb d : Tick} {e : SdlEntry} (hlow : -2 ^ 31 ≤ ticksFrom tb e - d.toInt)
    (hhigh : ticksFrom tb e - d.toInt < 2 ^ 31) : ticksFrom (tb + d) e = ticksFrom tb e - d.toInt := by
  have hsub : e.due - (tb + d) = (e.due - tb) - d := sub_add_eq_sub_sub _ _ _
  unfold ticksFrom at *
  rw [hsub, BitVec.toInt_sub]
  exact Int.bmod_eq_of_le (by omega) (by omega)

theorem orderedFrom_tick {b : Int} {tb : Tick} {list : List SdlEntry} (hb : -2 ^ 31 < b) (h : orderedFrom b tb list) :
    orderedFrom (b - 1) (tb + 1) list :=
  orderedFrom_shift h fun e he => by
    have hone : (1 : Tick).toInt = 1 := by decide
    have hlow := h.2 e he
    have hhigh : ticksFrom tb e < 2 ^ 31 := BitVec.toInt_lt
    exact (ticksFrom_add (d := 1) (by omega) (by omega)).trans (by rw [hone])

/-- An adjust that the guard lets pass takes no due time to the far side (R68). -/
theorem ticksFrom_lt_of_guard {delta : Tick} {s : State} (low : -16777216 ≤ delta.toInt) (guarded : guardRefuses delta s = false)
    {e : SdlEntry} (he : e ∈ s.scheduler.list) : ticksFrom s.time.tb e - delta.toInt < 2 ^ 31 := by
  have hhigh : ticksFrom s.time.tb e < 2 ^ 31 := BitVec.toInt_lt
  by_cases hback : delta.msb = true
  · have hcases : atOrBefore e.due s.time.tb = true ∨ distance (s.time.tb + delta) e.due < 2 ^ 31 := by
      rw [guardRefuses, hback, Bool.true_and, List.any_eq_false] at guarded
      have hpassed := guarded e he
      simp only [Bool.and_eq_true, Bool.not_eq_true', decide_eq_true_eq, not_and] at hpassed
      by_cases hdue : atOrBefore e.due s.time.tb = true
      · exact .inl hdue
      · exact .inr (Nat.not_le.mp (hpassed (Bool.eq_false_iff.mpr hdue)))
    unfold ticksFrom at *
    rcases hcases with hdue | hnear
    · rw [atOrBefore, decide_eq_true_iff] at hdue
      have hnotahead : (e.due - s.time.tb).toInt ≤ 0 := by
        have hflip : (s.time.tb - e.due).toNat = (2 ^ 32 - (e.due - s.time.tb).toNat) % 2 ^ 32 := by bv_omega
        unfold distance at hdue
        rw [BitVec.toInt_eq_toNat_cond]
        have := (e.due - s.time.tb).isLt
        split <;> omega
      omega
    · have hsub : e.due - (s.time.tb + delta) = (e.due - s.time.tb) - delta := sub_add_eq_sub_sub _ _ _
      unfold distance at hnear
      rw [hsub, BitVec.toNat_sub] at hnear
      rw [BitVec.toInt_eq_toNat_cond, BitVec.toInt_eq_toNat_cond] at *
      have := (e.due - s.time.tb).isLt
      have := delta.isLt
      split <;> split <;> omega
  · have hforward : 0 ≤ delta.toInt := by
      rw [BitVec.toInt_eq_msb_cond, if_neg hback]
      omega
    omega

theorem orderedFrom_adjust {b : Int} {delta : Tick} {s : State} (hb : -2 ^ 31 + 2 ^ 24 ≤ b)
    (range : -16777216 ≤ delta.toInt ∧ delta.toInt ≤ 16777215) (guarded : guardRefuses delta s = false)
    (h : orderedFrom b s.time.tb s.scheduler.list) : orderedFrom (b - 2 ^ 24) (s.time.tb + delta) s.scheduler.list := by
  obtain ⟨low, high⟩ := range
  refine orderedFrom_mono (orderedFrom_shift h fun e he => ?_) (show b - 2 ^ 24 ≤ b - delta.toInt by omega)
  have := h.2 e he
  exact ticksFrom_add (by omega) (ticksFrom_lt_of_guard low guarded he)

end Sys2Proof.TimeAndList
end


section
/-! The expiries and the overdue walk (R165, R169..R171): the order of the list lasts through all the adjusts that expire in one step,
and an expiry of the walk is in service only while its request is. -/

namespace Sys2Proof.TimeAndList

open Sys2Proof.Machine Sys2Proof.Safety Sys2Proof.Elementary Sys2Proof.Placement Sys2Proof.ScheduledList

/-! ## The owner of a scheduled directive and the time base (R69, R170) -/

/-- The time base of t is that of s, or that of s adjusted. -/
def adjustedAtMost (s t : State) : Prop :=
  t.time = s.time ∨
    ∃ delta : Tick, (-16777216 ≤ delta.toInt ∧ delta.toInt ≤ 16777215) ∧ guardRefuses delta s = false ∧
      t.time.tb = s.time.tb + delta

theorem adjustedAtMost_ownTimeAdjust {delta : Tick} (range : -16777216 ≤ delta.toInt ∧ delta.toInt ≤ 16777215) (s : State) :
    adjustedAtMost s (ownTimeAdjust delta s).state := by
  unfold ownTimeAdjust
  split
  · exact .inl rfl
  · split
    · exact .inl rfl
    · next hguard => exact .inr ⟨delta, range, Bool.eq_false_iff.mpr hguard, rfl⟩

theorem adjustedAtMost_serveScheduled (d : Directive) (ps : List Word) (s : State) :
    adjustedAtMost s (serveScheduled d ps s).state := by
  have hform {α : Type} {form : Except Status α} {owner : α → Answer}
      (h : ∀ x, form = .ok x → adjustedAtMost s (owner x).state) : adjustedAtMost s (afterForm form owner s).state := by
    cases form with
    | error st => exact .inl rfl
    | ok x => exact h x rfl
  have hlane (l : LaneId) (r : Lane × List Effect) : adjustedAtMost s (updateLane l r s) := .inl (by simp [updateLane])
  have hcommand (l : LaneId) (c : Command) : adjustedAtMost s (ownCommand l c s).state := by
    unfold ownCommand
    split <;> exact .inl rfl
  cases d with
  | flowSet =>
    refine hform fun a _ => .inl ?_
    unfold ownFlowSet
    split
    · rfl
    · split <;> rfl
  | flowClear =>
    refine hform fun f _ => .inl ?_
    unfold ownFlowClear
    split <;> rfl
  | laneSource => exact hform fun a _ => hlane _ _
  | start =>
    refine hform fun a _ => ?_
    unfold ownStart
    split
    · exact .inl rfl
    · exact hlane _ _
  | halt => exact hform fun l _ => hlane _ _
  | run => exact hform fun l _ => hcommand l _
  | hold => exact hform fun l _ => hcommand l _
  | step => exact hform fun l _ => hcommand l _
  | seek => exact hform fun l _ => hcommand l _
  | cue => exact hform fun l _ => hcommand l _
  | stop => exact hform fun a _ => hcommand a.1 _
  | timeAdjust => exact hform fun v h => adjustedAtMost_ownTimeAdjust (range_of_formTimeAdjust h) s
  | _ => exact .inl rfl

theorem adjustedAtMost_endExpiry (x : ExpiryInService) (s : State) : adjustedAtMost s (endExpiry x s) :=
  adjustedAtMost_serveScheduled x.entry.code x.entry.params (setScheduler { s.scheduler with service := none } s)

theorem endExpiry_scheduler (x : ExpiryInService) (s : State) :
    (endExpiry x s).scheduler = { s.scheduler with service := none } := by
  obtain ⟨more, h⟩ := endExpiry_eq x s
  rw [h]

/-! ## A step's worth of adjusts -/

/-- The list is in order with slack for one adjust per entry and c more; each takes at most 2^24 ticks. -/
def hasSlack (c : Nat) (s : State) : Prop :=
  orderedFrom (-2 ^ 31 + 2 ^ 24 * ((s.scheduler.list.length + c : Nat) : Int)) s.time.tb s.scheduler.list

theorem hasSlack_congr {c : Nat} {s t : State} (h : hasSlack c s) (hlist : t.scheduler.list = s.scheduler.list)
    (htime : t.time = s.time) : hasSlack c t := by
  unfold hasSlack
  rw [hlist, htime]
  exact h

theorem hasSlack_adjusted {c : Nat} {s t : State} (h : hasSlack (c + 1) s) (hlist : t.scheduler.list = s.scheduler.list)
    (htime : adjustedAtMost s t) : hasSlack c t := by
  unfold hasSlack at *
  rw [hlist]
  rcases htime with htime | ⟨delta, range, guarded, htb⟩
  · rw [htime]
    exact orderedFrom_mono h (by push_cast; omega)
  · rw [htb]
    exact orderedFrom_mono (orderedFrom_adjust (by push_cast; omega) range guarded h) (by push_cast; omega)

theorem hasSlack_takeHead {c : Nat} {s : State} (h : hasSlack c s) {e : SdlEntry} {rest : List SdlEntry}
    (hlist : s.scheduler.list = e :: rest) (late : Bool) : hasSlack (c + 1) (takeHead late s) := by
  unfold hasSlack at *
  rw [takeHead_of_cons hlist]
  rw [hlist] at h
  exact orderedFrom_mono (orderedFrom_sublist h (List.sublist_cons_self e rest)) (by push_cast [List.length_cons]; omega)

/-- Under the assumption P the list has slack for c adjusts; and an expiry of the walk is in service only while its request is. -/
def steady (P : Prop) (c : Nat) (s : State) : Prop := (P → hasSlack c s) ∧ lateOk s.scheduler

section Steady

variable {P : Prop} {c : Nat} {s : State}

theorem lateOk_of_free {k : Scheduler} (h : k.service = none) : lateOk k := by simp [lateOk, h]

theorem steady_endExpiry (h : steady P (c + 1) s) (x : ExpiryInService) : steady P c (endExpiry x s) := by
  have hk := endExpiry_scheduler x s
  exact ⟨fun hp => hasSlack_adjusted (h.1 hp) (by rw [hk]) (adjustedAtMost_endExpiry x s), lateOk_of_free (by rw [hk])⟩

theorem steady_takeHead (h : steady P c s) {e : SdlEntry} {rest : List SdlEntry} (hlist : s.scheduler.list = e :: rest)
    {late : Bool} (hlate : late = true → s.scheduler.overdue ≠ 0) : steady P (c + 1) (takeHead late s) := by
  refine ⟨fun hp => hasSlack_takeHead (h.1 hp) hlist late, ?_⟩
  rw [takeHead_of_cons hlist]
  intro x hx
  rw [List.mem_singleton.mp hx]
  exact hlate

theorem steady_mono (h : steady P (c + 1) s) : steady P c s :=
  ⟨fun hp => hasSlack_adjusted (h.1 hp) rfl (.inl rfl), h.2⟩

/-- The due head is the first entry. -/
theorem exists_of_dueHead {e : SdlEntry} (h : dueHead s = some e) : ∃ rest, s.scheduler.list = e :: rest := by
  unfold dueHead at h
  cases hlist : s.scheduler.list with
  | nil =>
    rw [hlist] at h
    cases h
  | cons y rest =>
    rw [hlist] at h
    obtain ⟨hy, -⟩ := Option.filter_eq_some_iff.mp h
    cases hy
    exact ⟨rest, rfl⟩

theorem steady_overdueWalk (h : steady P c s) (free : s.scheduler.service = none) (held : s.scheduler.overdue ≠ 0) (n : Nat) :
    steady P c (overdueWalk n s) := by
  have hended {t : State} (ht : steady P c t) (hfree : t.scheduler.service = none) : steady P c (endOverdue t) :=
    ⟨ht.1, lateOk_of_free hfree⟩
  induction n generalizing s with
  | zero => exact hended h free
  | succ n ih =>
    unfold overdueWalk
    split
    · exact hended h free
    · next hdue _ =>
      obtain ⟨rest, hlist⟩ := exists_of_dueHead hdue
      exact steady_mono (steady_takeHead h hlist fun _ => held)
    · next e hdue _ =>
      obtain ⟨rest, hlist⟩ := exists_of_dueHead hdue
      have hk := endExpiry_scheduler { entry := e, late := true } (takeHead true s)
      refine ih (steady_endExpiry (steady_takeHead h hlist fun _ => held) _) (by rw [hk]) ?_
      rw [hk, takeHead_of_cons hlist]
      exact held

theorem steady_finishExpiry (h : steady P (c + 1) s) (x : ExpiryInService) : steady P c (finishExpiry x s) := by
  have hk := endExpiry_scheduler x s
  have hfree : (endExpiry x s).scheduler.service = none := congrArg Scheduler.service hk
  have hended : steady P c (if adjustAccepted x.entry s then sendOverdue (endExpiry x s) else endExpiry x s) ∧
      (if adjustAccepted x.entry s then sendOverdue (endExpiry x s) else endExpiry x s).scheduler.service = none := by
    split
    · exact ⟨⟨fun hp => hasSlack_congr ((steady_endExpiry h x).1 hp) rfl rfl, lateOk_of_free hfree⟩, hfree⟩
    · exact ⟨steady_endExpiry h x, hfree⟩
  have hwalked {t : State} (ht : steady P c t) (hfree : t.scheduler.service = none) :
      steady P c (if listHeld t then walkOn t else t) := by
    split
    · next hheld => exact steady_overdueWalk ht hfree (of_decide_eq_true hheld) _
    · exact ht
  exact hwalked hended.1 hended.2

theorem steady_expireDue (h : steady P c s) (n : Nat) : steady P c (expireDue n s) := by
  induction n generalizing s with
  | zero => exact h
  | succ n ih =>
    unfold expireDue
    split
    · split
      · exact h
      · next hdue _ =>
        obtain ⟨rest, hlist⟩ := exists_of_dueHead hdue
        exact steady_mono (steady_takeHead h hlist fun h => absurd h Bool.false_ne_true)
      · next hdue _ =>
        obtain ⟨rest, hlist⟩ := exists_of_dueHead hdue
        exact ih (steady_finishExpiry (steady_takeHead h hlist fun h => absurd h Bool.false_ne_true) _)
    · exact h

theorem steady_expiry (h : steady P 1 s) : steady P 0 (expiry s) := by
  unfold expiry
  split
  · split
    · exact steady_mono h
    · exact steady_expireDue (steady_finishExpiry h _) _
  · exact steady_expireDue (steady_mono h) _

theorem steady_overdueRequest (h : steady P 1 s) : steady P 0 (overdueRequest s) := by
  unfold overdueRequest
  split
  · next x hservice =>
    split
    · next hlate =>
      have hk := endExpiry_scheduler x s
      have hheld : s.scheduler.overdue ≠ 0 := h.2 x (by simp [hservice]) hlate
      exact steady_overdueWalk (steady_endExpiry h x) (by rw [hk]) (by rw [hk]; exact hheld) _
    · exact steady_mono h
  · next hfree =>
    split
    · next hheld => exact steady_overdueWalk (steady_mono h) hfree (of_decide_eq_true hheld) _
    · exact steady_mono h

/-- A TIME_ADJUST and what it starts (R68..R70, R171). -/
theorem steady_adjusted (h : steady P 1 s) {delta : Tick} (range : -16777216 ≤ delta.toInt ∧ delta.toInt ≤ 16777215) :
    steady P 0 (afterGuard (withOverdue (ownTimeAdjust delta s))).state := by
  obtain ⟨howned, -⟩ := ownsOnly_ownTimeAdjust delta s
  have hk : (ownTimeAdjust delta s).state.scheduler = s.scheduler := by
    rw [howned]
    rfl
  have hadjusted : steady P 0 (ownTimeAdjust delta s).state := by
    refine ⟨fun hp => hasSlack_adjusted (h.1 hp) (by rw [hk]) (adjustedAtMost_ownTimeAdjust range s), ?_⟩
    rw [hk]
    exact h.2
  have hsent : steady P 0 (withOverdue (ownTimeAdjust delta s)).state := by
    unfold withOverdue
    split
    · exact ⟨fun hp => hasSlack_congr (hadjusted.1 hp) rfl rfl, fun _ _ _ => Nat.succ_ne_zero _⟩
    · exact hadjusted
  unfold afterGuard
  split
  · exact steady_expireDue hsent _
  · exact hsent

end Steady

end Sys2Proof.TimeAndList
end


section
/-! What every command leaves of a RESTART in progress, and the invariant of time base, RESTART and list (O58). -/

namespace Sys2Proof.TimeAndList

open Sys2Proof.Machine Sys2Proof.Safety Sys2Proof.Elementary Sys2Proof.Restarts

/-! ## Commands that leave time base, lanes and scheduler -/

/-- t has the time base, the lanes, the scheduler and the RESTART in progress of s. -/
structure Untouched (s t : State) : Prop where
  time : t.time = s.time
  lanes : t.lanes = s.lanes
  scheduler : t.scheduler = s.scheduler
  restart : t.control.restart = s.control.restart

theorem Untouched.refl (s : State) : Untouched s s := ⟨rfl, rfl, rfl, rfl⟩

theorem Untouched.trans {s t u : State} (h : Untouched s t) (h' : Untouched t u) : Untouched s u :=
  ⟨h'.time.trans h.time, h'.lanes.trans h.lanes, h'.scheduler.trans h.scheduler, h'.restart.trans h.restart⟩

theorem untouched_finishBlock (status : BlockStatus) (es : List ResultEntry) (s : State) :
    Untouched s (finishBlock status es s) := by
  unfold finishBlock
  split
  · exact ⟨rfl, rfl, rfl, rfl⟩
  · dsimp only
    split <;> exact ⟨rfl, rfl, rfl, rfl⟩

theorem untouched_endBlock (status : BlockStatus) (es : List ResultEntry) (s : State) : Untouched s (endBlock status es s) := by
  unfold endBlock
  split
  · exact Untouched.trans (t := useFinish s) ⟨rfl, rfl, rfl, rfl⟩ (untouched_finishBlock _ _ _)
  · exact ⟨rfl, rfl, rfl, rfl⟩

theorem untouched_conclude (r : ResultEntry) (s : State) : Untouched s (conclude r s) := by
  have hanswer : Untouched s (setControl { s.control with lastAnswer := some r } s) := ⟨rfl, rfl, rfl, rfl⟩
  unfold conclude
  dsimp only
  split
  · exact hanswer
  · split
    · exact hanswer.trans (untouched_endBlock _ _ _)
    · split
      · exact hanswer.trans (untouched_endBlock _ _ _)
      · exact ⟨rfl, rfl, rfl, rfl⟩

theorem untouched_judgeOffer (o : Offer) (s : State) : Untouched s (judgeOffer o s) := by
  have hretry (wanted : Bool) (r : List Word) : Untouched s (answerRetry wanted r s) := by
    unfold answerRetry
    split
    · exact ⟨rfl, rfl, rfl, rfl⟩
    · split <;> exact ⟨rfl, rfl, rfl, rfl⟩
  unfold judgeOffer
  split
  · exact ⟨rfl, rfl, rfl, rfl⟩
  · split
    · unfold meetFirstCopy
      split
      · exact ⟨rfl, rfl, rfl, rfl⟩
      · split
        · exact ⟨rfl, rfl, rfl, rfl⟩
        · exact hretry _ _
    · unfold admitControl
      split
      · exact ⟨rfl, rfl, rfl, rfl⟩
      · rw [intakeOverrun_eq]
        exact ⟨rfl, rfl, rfl, rfl⟩

theorem untouched_serveOffer (o : Offer) (s : State) : Untouched s (serveOffer o s) := by
  unfold serveOffer
  split
  · exact ⟨rfl, rfl, rfl, rfl⟩
  · exact .refl s
  · exact untouched_judgeOffer o s
  · split
    · refine Untouched.trans ?_ (untouched_judgeOffer o _)
      exact ⟨rfl, rfl, rfl, rfl⟩
    · exact .refl s

theorem untouched_executionStart (s : State) : Untouched s (executionStart s) := by
  have hreserve (b : IntakeEntry) : Untouched s (reserveFor b s) := by
    unfold reserveFor
    split <;> exact ⟨rfl, rfl, rfl, rfl⟩
  unfold executionStart
  split
  · unfold startHead
    split
    · exact .refl s
    · split
      · unfold startBlock
        dsimp only
        split
        · exact (hreserve _).trans (untouched_endBlock _ _ _)
        · exact (hreserve _).trans ⟨rfl, rfl, rfl, rfl⟩
      · exact .refl s
  · split
    · exact .refl s
    · exact untouched_finishBlock _ _ _

theorem untouched_noticeRequest (n : Notice) (s : State) : Untouched s (noticeRequest n s) := by
  unfold noticeRequest
  split
  · exact .refl s
  · rw [serveNotice_eq]
    exact ⟨rfl, rfl, rfl, rfl⟩

theorem untouched_reportCompletion (s : State) : Untouched s (reportCompletion s) := by
  unfold reportCompletion
  split <;> exact ⟨rfl, rfl, rfl, rfl⟩

theorem untouched_askOwners {e : Envelope} {o : Owners} (h : Asks e o) (q : Inquiry) (s : State) :
    Untouched s (askOwners o q s) := by
  have heffect (k : Nat) (t : State) : Untouched t (o.effect k t) := by
    cases h with
    | unitRead => exact .refl t
    | portRead => exact .refl t
    | portZero => cases k <;> exact ⟨rfl, rfl, rfl, rfl⟩
  have hall : ∀ (ks : List Nat) (t : State), Untouched t (ks.foldl (fun u k => o.effect k u) t) := by
    intro ks
    induction ks with
    | nil => exact .refl
    | cons k rest ih => exact fun t => (heffect k t).trans (ih _)
  exact (hall (ownersNow o q s) s).trans ⟨rfl, rfl, rfl, rfl⟩

theorem untouched_advanceInquiry {e : Envelope} {o : Owners} (h : Asks e o) (s : State) :
    Untouched s (advanceInquiry e o s) := by
  have hasked := untouched_askOwners h (inquiryOf e s) s
  rcases Nat.lt_or_ge (inquiryNow o (inquiryOf e s) s).asked o.count with hlt | hle
  · rw [advanceInquiry_of_lt hlt]
    exact hasked.trans ⟨rfl, rfl, rfl, rfl⟩
  · rw [advanceInquiry_of_le hle]
    refine hasked.trans (Untouched.trans ?_ (untouched_conclude _ _))
    unfold readOut
    split <;> exact ⟨rfl, rfl, rfl, rfl⟩

/-! ## A RESTART FULL in progress (R137, log entry 27) -/

theorem touch_resetLane {y : Lane} (h : LaneTouch False resetLane y) : y = resetLane := by
  cases h with
  | same => rfl
  | marked allowed => exact (allowed.elim (fun h => h rfl) id).elim
  | aged => rfl
  | configured directed => exact (directed).elim
  | sourced directed => exact (directed).elim
  | commanded accepted => exact absurd rfl (arrivalFailure_eq_none accepted).1
  | taken => rfl
  | settled old => exact absurd rfl (admitting_cases old).1
  | parkedLast draining => cases draining
  | advanced active => exact absurd rfl active
  | reanchored => rfl

theorem drop_resetLane {clock : TimeBase} {y : Lane} {fx : List Effect} (h : LaneDrop False clock resetLane y fx) :
    y = resetLane := by
  cases h with
  | cut directed => exact (directed).elim
  | started directed => exact (directed).elim
  | halted => rfl
  | restarted directed => exact (directed).elim
  | frameLeft => rfl
  | selected active => exact absurd rfl active
  | skipped parts kept =>
    rw [List.sublist_nil.mp kept]
    rfl
  | parkedFill draining => cases draining

/-- What a RESTART FULL in progress needs of a step: the scheduler, and each lane that its restart has left, stay. -/
def standsStill (s t : State) : Prop :=
  t.scheduler = s.scheduler ∧ ∀ l, laneOf s l = resetLane → laneOf t l = resetLane

theorem standsStill_move {media : Media → Prop} {s t : State}
    (h : Move { media := media, directives := False, clock := False } s t) : standsStill s t := by
  refine ⟨?_, fun l hl => ?_⟩
  · have hlist := listMove h
    generalize t.time = clock, t.scheduler = k at hlist ⊢
    cases hlist with
    | same => rfl
    | timeSet directed => exact (directed).elim
    | counted clock => exact clock.elim
    | scheduled directed => exact (directed).elim
    | cancelled directed => exact (directed).elim
    | expiring clock => exact clock.elim
    | answered clock => exact clock.elim
    | overdue clock => exact clock.elim
  · rcases laneOf_move h l with htouch | ⟨fx, hdrop⟩ | ⟨hactive, -⟩
    · rw [hl] at htouch
      exact touch_resetLane htouch
    · rw [hl] at hdrop
      exact drop_resetLane hdrop
    · rw [hl] at hactive
      exact absurd rfl hactive

theorem standsStill_moves {media : Media → Prop} {s t : State}
    (h : Moves { media := media, directives := False, clock := False } s t) : standsStill s t := by
  induction h with
  | refl => exact ⟨rfl, fun _ hl => hl⟩
  | tail _ hmove ih =>
    obtain ⟨hk, hlanes⟩ := standsStill_move hmove
    exact ⟨hk.trans ih.1, fun l hl => hlanes l (ih.2 l hl)⟩

theorem standsStill_tick (s : State) : standsStill s (tick s) := by
  refine ⟨rfl, fun l hl => ?_⟩
  have hof : laneOf (tick s) l = { laneOf s l with frame := (laneOf s l).frame.map ageFrame } := by
    simp [tick, laneOf, mapLanes]
  rw [hof, hl]
  rfl

/-- Nothing expires from a scheduler that its restart has left (R175). -/
theorem expiry_of_reset {s : State} (h : s.scheduler = resetScheduler) : expiry s = s ∧ overdueRequest s = s := by
  have hfree : s.scheduler.service = none := by rw [h]; rfl
  have hempty : s.scheduler.list = [] := by rw [h]; rfl
  have hnotheld : listHeld s = false := by rw [listHeld, h]; rfl
  constructor
  · rw [expiry, hfree]
    exact expireDue_of_none (dueHead_of_nil hempty) _
  · rw [overdueRequest, hfree]
    exact if_neg (by simp [hnotheld])

/-- A step that leaves the RESTART in progress as it is. -/
theorem restartOk_of_standsStill {s t : State} (hs : RestartOk s) (hrestart : t.control.restart = s.control.restart)
    (still : ∀ r, s.control.restart = some r → r.scope = .full → standsStill s t) : RestartOk t := by
  intro r hr
  rw [hrestart] at hr
  obtain ⟨hleft, hnodup, hfull⟩ := hs r hr
  refine ⟨hleft, hnodup, fun hscope => ?_⟩
  obtain ⟨hk, hlanes⟩ := still r (Option.mem_toList.mp hr) hscope
  obtain ⟨hreset, hanswered⟩ := hfull hscope
  exact ⟨hk.trans hreset, fun l => (hanswered l).imp_right (hlanes l)⟩

theorem restartOk_of_none {s : State} (h : s.control.restart = none) : RestartOk s := by simp [RestartOk, h]

/-- While a RESTART is in progress nothing else is issued (R129). -/
theorem no_restart_of_issuable {e : Envelope} {s : State} (h : issuable e s = true) (he : ∀ scope, e ≠ restartEnvelope scope) :
    s.control.restart = none := by
  cases hr : s.control.restart with
  | none => rfl
  | some r =>
    rw [issuable_of_restart hr (he r.scope)] at h
    cases h

/-- The service of a directive leaves the RESTART in progress. -/
theorem restart_served {G : Media → Prop} {s t : State} (h : Served G s t) : t.control.restart = s.control.restart := by
  cases h with
  | moved h => rw [(Reception.keepsControl_moves (h True)).control]
  | adjusted range =>
    rw [(Reception.keepsControl_moves (moves_adjusted (G := Scope.all G) trivial trivial range s)).control]
  | grouped => rfl
  | masked => rfl

end Sys2Proof.TimeAndList
end


section
/-! One step of a RESTART, by its scope and by whether lanes are left to answer; and the invariant of time base, RESTART and list
(O58). -/

namespace Sys2Proof.Restarts

open Sys2Proof.Machine Sys2Proof.Safety Sys2Proof.Elementary

/-! ## One step of a RESTART (R136, R137) -/

/-- The step of RESTART LANES that leaves lanes to answer. -/
theorem advanceRestart_lanes_going {s : State} (h : issuable (restartEnvelope .lanes) s = true) (hok : RestartOk s)
    (hleft : leftWaiting s ≠ []) :
    advanceRestart .lanes s =
      { steppedPart .lanes s with control := { s.control with restart := some { scope := .lanes, waiting := leftWaiting s } } } := by
  have hstep := restartLanes_beside .lanes hok { s.control with restart := some (standing .lanes s) } s.scheduler
  rw [beside_steppedPart] at hstep
  rw [advanceRestart_going (beginRestart_lanes h) rfl hstep rfl hleft]

/-- The step of RESTART LANES in which the last lane answers. -/
theorem advanceRestart_lanes_last {s : State} (h : issuable (restartEnvelope .lanes) s = true) (hok : RestartOk s)
    (hlast : leftWaiting s = []) :
    advanceRestart .lanes s =
      conclude restartEntry
        (request (.unitRestarted .lanes)
          (restartStore { steppedPart .lanes s with control := { s.control with restart := none } })) := by
  have hstep := restartLanes_beside .lanes hok { s.control with restart := some (standing .lanes s) } s.scheduler
  rw [beside_steppedPart, hlast] at hstep
  exact (advanceRestart_last (beginRestart_lanes h) rfl hstep rfl).trans (endRestart_lanes _ (steppedPart .lanes s))

/-- The step of RESTART FULL that leaves lanes to answer, no expiry in service. -/
theorem advanceRestart_full_going {s : State} (h : issuable (restartEnvelope .full) s = true) (hok : RestartOk s)
    (hfree : s.control.restart = none → s.scheduler.service = none) (hleft : leftWaiting s ≠ []) :
    advanceRestart .full s =
      { restartedFull s with control := { s.control with restart := some { scope := .full, waiting := leftWaiting s } } } := by
  have hstep := restartLanes_beside .full hok { s.control with restart := some (standing .full s) } resetScheduler
  rw [steppedPart_full] at hstep
  rw [advanceRestart_going (beginRestart_full h hok hfree) rfl hstep rfl hleft]

/-- The step of RESTART FULL in which the last lane answers, no expiry in service. -/
theorem advanceRestart_full_last {s : State} (h : issuable (restartEnvelope .full) s = true) (hok : RestartOk s)
    (hfree : s.control.restart = none → s.scheduler.service = none) (hlast : leftWaiting s = []) :
    advanceRestart .full s = endRestartFull { restartedFull s with control := { s.control with restart := none } } := by
  have hstep := restartLanes_beside .full hok { s.control with restart := some (standing .full s) } resetScheduler
  rw [steppedPart_full, hlast] at hstep
  rw [advanceRestart_last (beginRestart_full h hok hfree) rfl hstep rfl]
  rfl

/-- RESTART FULL with an expiry in service is that of the part after its end (R175). -/
theorem advanceRestart_full_of_service {s : State} {x : ExpiryInService} (h : issuable (restartEnvelope .full) s = true)
    (hnone : s.control.restart = none) (hservice : s.scheduler.service = some x) :
    ∃ w, issuable (restartEnvelope .full) w = true ∧ w.control = s.control ∧ w.reports = s.reports ∧
      w.scheduler.service = none ∧ advanceRestart .full s = advanceRestart .full w ∧
      Moves (Scope.all fun _ => True) s w := by
  have hexec := exec_restartFull_of_service h hnone hservice
  have hmoves : Moves (Scope.all fun _ => True) s { endingService x s with surroundings := s.surroundings } := by
    have hbare : Move (Scope.all fun _ => True) s { s with surroundings := { s.surroundings with answers := [] } } := .beside rfl
    have hended : Moves (Scope.all fun _ => True) { s with surroundings := { s.surroundings with answers := [] } }
        (endingService x s) := by
      unfold endingService
      split
      · exact moves_overdueRequest trivial trivial _
      · exact moves_expiry trivial trivial _
    exact ((Relation.ReflTransGen.single hbare).trans hended).tail (.beside rfl)
  have hkept := Reception.keepsControl_moves hmoves
  have hfree : ({ endingService x s with surroundings := s.surroundings } : State).scheduler.service = none :=
    (settled_endingService hservice).1
  generalize ({ endingService x s with surroundings := s.surroundings } : State) = w at hexec hmoves hkept hfree
  have hissue : issuable (restartEnvelope .full) w = true := by
    rw [issuable, awaited, hkept.control]
    exact h
  have hrun {u : State} (hu : issuable (restartEnvelope .full) u = true) : exec .restartFull u = .next (advanceRestart .full u) :=
    congrArg Host.Outcome.next (if_pos hu)
  rw [hrun h, hrun hissue] at hexec
  exact ⟨w, hissue, hkept.control, hkept.reports, hfree, Host.Outcome.next.inj hexec, hmoves⟩

end Sys2Proof.Restarts

namespace Sys2Proof.TimeAndList

open Sys2Proof.Machine Sys2Proof.Safety Sys2Proof.Elementary Sys2Proof.Restarts

/-- The invariant of O58, the order of the list under an assumption P. -/
structure Standing (P : Prop) (s : State) : Prop where
  time : TimeOk s
  restart : RestartOk s
  sdl : SdlOk s
  ordered : P → SdlOrdered s

/-- What the invariant asks of the state a step begins with: under P no entry has been left due for more than 2^30 ticks. -/
structure Prompt (P : Prop) (s : State) : Prop where
  time : TimeOk s
  restart : RestartOk s
  list : listOk s.scheduler
  late : lateOk s.scheduler
  ordered : P → orderedFrom (-2 ^ 30) s.time.tb s.scheduler.list

variable {P : Prop} {s t : State}

theorem Prompt.steady (h : Prompt P s) : steady P 1 s := by
  refine ⟨fun hp => orderedFrom_mono (h.ordered hp) ?_, h.late⟩
  have := h.list.1
  push_cast
  omega

/-- A step that leaves the list in order. -/
theorem Standing.of_orderedFrom {b : Int} (htime : TimeOk t) (hrestart : RestartOk t) (hlist : listOk t.scheduler)
    (hlate : lateOk t.scheduler) (hordered : P → orderedFrom b t.time.tb t.scheduler.list) : Standing P t :=
  ⟨htime, hrestart, (sdlOk_iff).mpr ⟨hlist, hlate⟩, fun hp => (hordered hp).1⟩

theorem Standing.of_steady {c : Nat} (htime : TimeOk t) (hrestart : RestartOk t) (hlist : listOk t.scheduler)
    (hsteady : TimeAndList.steady P c t) : Standing P t :=
  .of_orderedFrom htime hrestart hlist hsteady.2 hsteady.1

theorem listOk_reset : listOk resetScheduler := ⟨Nat.zero_le _, List.nodup_nil, by simp [resetScheduler], Nat.zero_le _⟩

/-- A step that leaves the scheduler as its restart does. -/
theorem Standing.of_reset (htime : TimeOk t) (hrestart : RestartOk t) (hk : t.scheduler = resetScheduler) : Standing P t := by
  refine .of_orderedFrom (b := 0) htime hrestart (hk ▸ listOk_reset) (hk ▸ lateOk_of_free rfl) fun _ => ?_
  rw [hk]
  exact orderedFrom_nil _ _

theorem timeOk_untouched (h : Untouched s t) (hs : TimeOk s) : TimeOk t := by
  intro hunset
  rw [h.time] at hunset
  obtain ⟨hidle, hempty, hfree⟩ := hs hunset
  rw [h.scheduler]
  refine ⟨fun l => ?_, hempty, hfree⟩
  rw [laneOf, h.lanes]
  exact hidle l

theorem Prompt.untouched (h : Untouched s t) (hs : Prompt P s) : Prompt P t where
  time := timeOk_untouched h hs.time
  restart := restartOk_of_standsStill hs.restart h.restart fun _ _ _ =>
    ⟨h.scheduler, fun l hl => by rw [laneOf, h.lanes]; exact hl⟩
  list := h.scheduler ▸ hs.list
  late := h.scheduler ▸ hs.late
  ordered := by
    rw [h.scheduler, h.time]
    exact hs.ordered

theorem Prompt.standing (h : Prompt P s) : Standing P s := .of_orderedFrom h.time h.restart h.list h.late h.ordered

/-- Moves of which none counts the time base and none expires an entry. -/
theorem Prompt.moves {G : Scope} (still : ¬ G.clock) (h : Moves G s t) (hs : Prompt P s) (hrestart : RestartOk t) :
    Prompt P t := by
  refine ⟨timeOk_moves h hs.time, hrestart, listOk_moves h hs.list, ?_, fun hp => ?_⟩
  · have hlate := hs.late
    clear hrestart hs
    induction h with
    | refl => exact hlate
    | tail _ hmove ih => exact (listMove hmove).keeps_late still ih
  · have hordered := hs.ordered hp
    clear hrestart hs
    induction h with
    | refl => exact hordered
    | tail _ hmove ih => exact (listMove hmove).keeps_order still ih

/-- The tick (R63). -/
theorem Prompt.ticked (hs : Prompt P s) : Standing P (tick s) := by
  have hmoves : Moves (Scope.all fun _ => True) s (tick s) := moves_tick trivial s
  refine .of_orderedFrom (b := -2 ^ 30 - 1) (timeOk_moves hmoves hs.time) ?_ hs.list hs.late fun hp =>
    orderedFrom_tick (by decide) (hs.ordered hp)
  exact restartOk_of_standsStill hs.restart rfl fun _ _ _ => standsStill_tick s

/-- An expiry or a walk: with a RESTART FULL in progress there is none (R175). -/
theorem Prompt.expired {c : Nat} (hs : Prompt P s) (hmoves : Moves (Scope.all fun _ => True) s t)
    (hreset : s.scheduler = resetScheduler → t = s) (hsteady : TimeAndList.steady P c t) : Standing P t := by
  refine .of_steady (timeOk_moves hmoves hs.time) ?_ (listOk_moves hmoves hs.list) hsteady
  refine restartOk_of_standsStill hs.restart (by rw [(Reception.keepsControl_moves hmoves).control]) fun r hr hscope => ?_
  obtain ⟨-, -, hfull⟩ := hs.restart r (Option.mem_toList.mpr hr)
  rw [hreset (hfull hscope).1]
  exact ⟨rfl, fun _ hl => hl⟩

/-- A service and the answer's way to the control unit (R129, R130). -/
theorem Prompt.served {G : Media → Prop} (hs : Prompt P s) (hnone : s.control.restart = none) (h : Served G s t)
    (r : ResultEntry) : Standing P (conclude r t) := by
  have hrestart : RestartOk t := restartOk_of_none ((restart_served h).trans hnone)
  have hconclude := untouched_conclude r t
  cases h with
  | moved h => exact ((hs.moves (still := id) (h False) hrestart).untouched hconclude).standing
  | grouped g =>
    have hgroup : Untouched s (setControl { s.control with group := g } s) := ⟨rfl, rfl, rfl, rfl⟩
    exact ((hs.untouched hgroup).untouched hconclude).standing
  | masked m =>
    have hmask : Untouched s (setReports { s.reports with mask := m } s) := ⟨rfl, rfl, rfl, rfl⟩
    exact ((hs.untouched hmask).untouched hconclude).standing
  | adjusted range =>
    have hmoves := moves_adjusted (G := Scope.all fun _ => True) trivial trivial range s
    have hsteady := steady_adjusted hs.steady range
    refine .of_steady (c := 0) (timeOk_untouched hconclude (timeOk_moves hmoves hs.time))
      (restartOk_of_none (hconclude.restart.trans ((restart_served (.adjusted (G := fun _ => True) range)).trans hnone)))
      (hconclude.scheduler ▸ listOk_moves hmoves hs.list) ⟨fun hp => ?_, hconclude.scheduler ▸ hsteady.2⟩
    exact hasSlack_congr (hsteady.1 hp) (by rw [hconclude.scheduler]) hconclude.time

/-! ## RESTART (R136, R137) -/

/-- The part after a step of RESTART LANES, with any control unit (R97, R120). -/
theorem Prompt.stepped (hs : Prompt P s) (c : Control) (hrestart : RestartOk { steppedPart .lanes s with control := c }) :
    Prompt P { steppedPart .lanes s with control := c } := by
  have htime : (steppedPart .lanes s).time = s.time := by
    unfold steppedPart
    rw [afterReleases_eq]
  have hk : (steppedPart .lanes s).scheduler = s.scheduler := by
    unfold steppedPart
    rw [afterReleases_scheduler]
  have hlanes := laneOf_steppedPart .lanes s
  generalize steppedPart .lanes s = u at htime hk hlanes hrestart ⊢
  refine ⟨fun hunset => ?_, hrestart, hk ▸ hs.list, hk ▸ hs.late, ?_⟩
  · change u.time.isSet = false at hunset
    rw [htime] at hunset
    obtain ⟨hidle, hempty⟩ := hs.time hunset
    refine ⟨fun l => ?_, (congrArg Scheduler.list hk).trans hempty.1, (congrArg Scheduler.service hk).trans hempty.2⟩
    change (laneOf u l).state = .idle
    rw [hlanes l]
    split
    · rfl
    · exact hidle l
  · change P → orderedFrom (-2 ^ 30) u.time.tb u.scheduler.list
    rw [htime, hk]
    exact hs.ordered

theorem untouched_restartStore (s : State) : Untouched s (restartStore s) := by
  unfold restartStore
  split <;> exact ⟨rfl, rfl, rfl, rfl⟩

theorem untouched_request (n : Notice) (s : State) : Untouched s (request n s) := ⟨rfl, rfl, rfl, rfl⟩

theorem Prompt.restartedLanes (hs : Prompt P s) (h : issuable (restartEnvelope .lanes) s = true) :
    Standing P (advanceRestart .lanes s) := by
  by_cases hlast : leftWaiting s = []
  · rw [advanceRestart_lanes_last h hs.restart hlast]
    have hpart := hs.stepped { s.control with restart := none } (restartOk_of_none rfl)
    have hended := hpart.untouched (untouched_restartStore _)
    exact ((hended.untouched (untouched_request _ _)).untouched (untouched_conclude restartEntry _)).standing
  · rw [advanceRestart_lanes_going h hs.restart hlast]
    refine (hs.stepped _ fun r hr => ?_).standing
    rw [← Option.some.inj (Option.mem_toList.mp hr)]
    exact ⟨hlast, ((nodup_unanswered hs.restart).filter _), nofun⟩

/-- A lane that has answered a RESTART FULL is as its restart left it (R97, R137). -/
theorem laneOf_restartedFull (h : issuable (restartEnvelope .full) s = true) (hok : RestartOk s) (l : LaneId) :
    l ∈ leftWaiting s ∨ laneOf (restartedFull s) l = resetLane := by
  have hof : laneOf (restartedFull s) l = if l ∈ answering s then laneAfterRestart .full (laneOf s l) else laneOf s l :=
    laneOf_steppedPart .full s l
  rw [hof]
  split
  · exact .inr rfl
  · next hl =>
    by_cases hmem : l ∈ unanswered s
    · exact .inl (List.mem_filter.mpr ⟨hmem, decide_eq_true hl⟩)
    · cases hr : s.control.restart with
      | none =>
        rw [unanswered, hr] at hmem
        exact absurd (List.mem_finRange l) hmem
      | some r =>
        obtain ⟨-, -, hfull⟩ := hok r (Option.mem_toList.mpr hr)
        rw [unanswered, hr] at hmem
        exact .inr (((hfull (scope_of_issuable h hr)).2 l).resolve_left hmem)

theorem standing_restartedFull_of_free (htime : TimeOk s) (hrestart : RestartOk s)
    (h : issuable (restartEnvelope .full) s = true) (hfree : s.control.restart = none → s.scheduler.service = none) :
    Standing P (advanceRestart .full s) := by
  have hlanes := laneOf_restartedFull h hrestart
  by_cases hlast : leftWaiting s = []
  · rw [advanceRestart_full_last h hrestart hfree hlast]
    have hreset (l : LaneId) : laneOf (restartedFull s) l = resetLane :=
      (hlanes l).resolve_left (by rw [hlast]; exact List.not_mem_nil)
    have hk : (restartedFull s).scheduler = resetScheduler := rfl
    generalize restartedFull s = u at hreset hk ⊢
    rw [endRestartFull_whole (s := { u with control := { s.control with restart := none } }) hreset rfl]
    refine .of_reset (fun _ => ⟨fun l => ?_, congrArg Scheduler.list hk, congrArg Scheduler.service hk⟩) (restartOk_of_none rfl) hk
    simp [laneOf, resetLane]
  · rw [advanceRestart_full_going h hrestart hfree hlast]
    refine .of_reset (fun hunset => ?_) (fun r hr => ?_) rfl
    · obtain ⟨hidle, -⟩ := htime hunset
      refine ⟨fun l => ?_, rfl, rfl⟩
      have hof : laneOf (restartedFull s) l = if l ∈ answering s then laneAfterRestart .full (laneOf s l) else laneOf s l :=
        laneOf_steppedPart .full s l
      change (laneOf (restartedFull s) l).state = .idle
      rw [hof]
      split
      · rfl
      · exact hidle l
    · rw [← Option.some.inj (Option.mem_toList.mp hr)]
      exact ⟨hlast, (nodup_unanswered hrestart).filter _, fun _ => ⟨rfl, hlanes⟩⟩

theorem Prompt.restartedFull (hs : Prompt P s) (h : issuable (restartEnvelope .full) s = true) :
    Standing P (advanceRestart .full s) := by
  cases hr : s.control.restart with
  | some r => exact standing_restartedFull_of_free hs.time hs.restart h (fun hnone => by rw [hr] at hnone; cases hnone)
  | none =>
    cases hservice : s.scheduler.service with
    | none => exact standing_restartedFull_of_free hs.time hs.restart h fun _ => hservice
    | some x =>
      obtain ⟨w, hissue, hcontrol, -, hfree, heq, hmoves⟩ := advanceRestart_full_of_service h hr hservice
      rw [heq]
      exact standing_restartedFull_of_free (timeOk_moves hmoves hs.time) (restartOk_of_none (by rw [hcontrol, hr])) hissue
        fun _ => hfree

/-! ## Every command -/

theorem Prompt.commanded {G : Media → Prop} (hs : Prompt P s) (h : Commanded G s t) : Standing P t := by
  cases h with
  | reset straps => exact .of_reset (fun _ => ⟨fun l => by simp [laneOf, hardReset, resetLane], rfl, rfl⟩) (restartOk_of_none rfl) rfl
  | event h =>
    have hmoves := h False False
    have hrestart : RestartOk t := restartOk_of_standsStill hs.restart
      (by rw [(Reception.keepsControl_moves hmoves).control]) fun _ _ _ => standsStill_moves hmoves
    exact (hs.moves (still := id) hmoves hrestart).standing
  | ticked => exact hs.ticked
  | expired =>
    exact hs.expired (moves_expiry trivial trivial s) (fun h => (expiry_of_reset h).1) (steady_expiry hs.steady)
  | walked =>
    exact hs.expired (moves_overdueRequest trivial trivial s) (fun h => (expiry_of_reset h).2) (steady_overdueRequest hs.steady)
  | offered o => exact (hs.untouched (untouched_serveOffer o s)).standing
  | started => exact (hs.untouched (untouched_executionStart s)).standing
  | noticed n => exact (hs.untouched (untouched_noticeRequest n s)).standing
  | completed => exact (hs.untouched (untouched_reportCompletion s)).standing
  | holdChanged level =>
    have hlevel : Untouched s (rptHoldChange level s) := ⟨rfl, rfl, rfl, rfl⟩
    exact (hs.untouched hlevel).standing
  | directed issued immediate service =>
    exact hs.served (no_restart_of_issuable issued immediate.no_restart) service.served _
  | inquired _ asks => exact (hs.untouched (untouched_advanceInquiry asks s)).standing
  | @restarting scope issued =>
    cases scope with
    | lanes => exact hs.restartedLanes issued
    | full => exact hs.restartedFull issued

/-- Settles O58: the list's order survives a step because entries no more than 2^30 ticks late leave slack for all the adjusts that
can expire in it. -/
theorem stepKeepsTimeAndList : Obligations.StepKeepsTimeAndList := by
  intro s t htime hrestart hsdl h
  obtain ⟨hlist, hlate⟩ := (sdlOk_iff).mp hsdl
  have hprompt (u : State) (hu : u.time = s.time ∧ u.lanes = s.lanes ∧ u.scheduler = s.scheduler ∧ u.control = s.control) :
      Prompt (SdlOrdered s ∧ SdlPrompt s) u := by
    have hs : Prompt (SdlOrdered s ∧ SdlPrompt s) s := ⟨htime, hrestart, hlist, hlate, fun hp => hp⟩
    exact hs.untouched ⟨hu.1, hu.2.1, hu.2.2.1, by rw [hu.2.2.2]⟩
  have hstanding : Standing (SdlOrdered s ∧ SdlPrompt s) t := by
    unfold step at h
    split at h
    · cases h
      exact (hprompt s ⟨rfl, rfl, rfl, rfl⟩).standing
    · next c rest _ =>
      obtain ⟨u, hu, hcommanded⟩ := exec_commanded (G := fun _ => True) c (s := { s with pending := rest }) fun _ _ _ => trivial
      rw [h] at hu
      cases hu
      exact (hprompt { s with pending := rest } ⟨rfl, rfl, rfl, rfl⟩).commanded hcommanded
  exact ⟨hstanding.time, hstanding.restart, hstanding.sdl, fun hordered hp => hstanding.ordered ⟨hordered, hp⟩⟩

end Sys2Proof.TimeAndList
end


section
/-! What keeps the bounds of the control unit and of the report generator: reports admitted and sent, a block's finish, a directive's
answer, an offer, the start of a block (O59). -/

namespace Sys2Proof.ControlAndReports

open Sys2Proof.Machine Sys2Proof.Safety Sys2Proof.Elementary Sys2Proof.ControlUnit

/-- The invariant of O59. -/
structure Orderly (s : State) : Prop where
  control : ControlOk s
  execution : ExecutionOk s
  inquiry : InquiryOk s
  fits : ResponsesFit s
  reports : ReportsOk s

variable {s t : State}

/-- The invariant speaks of the control unit and the report generator alone. -/
theorem Orderly.congr (h : Orderly s) (hcontrol : t.control = s.control) (hreports : t.reports = s.reports) : Orderly t := by
  obtain ⟨control, execution, inquiry, fits, reports⟩ := h
  refine ⟨?_, ?_, ?_, ?_, ?_⟩
  · rwa [ControlOk, hcontrol]
  · rwa [ExecutionOk, hcontrol, hreports]
  · rwa [InquiryOk, hcontrol]
  · rwa [ResponsesFit, hcontrol, hreports]
  · rwa [ReportsOk, hreports]

theorem Orderly.moves {G : Scope} (h : Orderly s) (hmoves : Moves G s t) : Orderly t :=
  have hkept := Reception.keepsControl_moves hmoves
  h.congr hkept.control hkept.reports

/-! ## The execution and the inquiry, as the statement uses them -/

/-- With no block in execution no place is reserved (R179). -/
theorem reserved_of_none (h : ExecutionOk s) (hnone : s.control.execution = none) : s.reports.reserved = false := by
  rw [ExecutionOk, hnone] at h
  exact h

/-- The block in execution (R127, R131, R179). -/
structure Executing (x : Execution) (b : IntakeEntry) (rest : List IntakeEntry) (s : State) : Prop where
  ended : x.todo = [] ↔ x.ended ≠ none
  count : x.todo.length + x.entries.length ≤ 16
  room : 4 + 2 * (x.todo.length + x.entries.length) + wordsGiven x.entries ≤ 256
  intake : s.control.intake = b :: rest
  reserved : s.reports.reserved = replyWanted b.payload

theorem executing_of_some {x : Execution} (h : ExecutionOk s) (hx : s.control.execution = some x) :
    ∃ b rest, Executing x b rest s := by
  rw [ExecutionOk, hx] at h
  obtain ⟨hended, hcount, hroom, hintake⟩ := h
  cases hi : s.control.intake with
  | nil =>
    rw [hi] at hintake
    exact hintake.elim
  | cons b rest =>
    rw [hi] at hintake
    exact ⟨b, rest, hended, hcount, hroom, hi, hintake⟩

theorem Executing.executionOk {x : Execution} {b : IntakeEntry} {rest : List IntakeEntry} (h : Executing x b rest s)
    (hx : s.control.execution = some x) : ExecutionOk s := by
  rw [ExecutionOk, hx, h.intake]
  exact ⟨h.ended, h.count, h.room, h.reserved⟩

theorem inquiryOk_of_none (h : s.control.inquiry = none) : InquiryOk s := by
  rw [InquiryOk, h]
  exact fun q hq => absurd hq List.not_mem_nil

/-! ## The report queue (R177, R179, R183) -/

/-- The bounds of the report queue. -/
structure QueueOk (r : Reports) : Prop where
  places : r.queue.length + r.reserved.toNat ≤ 16
  notices : (r.queue.countP fun x => decide (x.kind = .notice)) ≤ 12
  head : r.link = .head → r.queue ≠ []
  quiet : r.link = .quiet → r.hold = false → r.queue = []

theorem reportsOk_iff : ReportsOk s ↔ QueueOk s.reports :=
  ⟨fun ⟨hplaces, hnotices, hhead, hquiet⟩ => ⟨hplaces, hnotices, hhead, hquiet⟩,
    fun ⟨hplaces, hnotices, hhead, hquiet⟩ => ⟨hplaces, hnotices, hhead, hquiet⟩⟩

/-- A report that joins the queue where there is a place, a notice where there are fewer than 12 (R178, R181). -/
theorem QueueOk.push {r : Reports} (h : QueueOk r) {x : Report} {reserved : Bool} {seq : Word}
    (place : r.queue.length + 1 + reserved.toNat ≤ 16) (notice : x.kind = .notice → r.queue.length < 12) :
    QueueOk { r with queue := r.queue ++ [x], seq := seq, reserved := reserved, link := linkAfterAdmission r } := by
  refine ⟨?_, ?_, fun _ => List.append_ne_nil_of_right_ne_nil _ (List.cons_ne_nil _ _), fun hquiet hhold => ?_⟩
  · rwa [List.length_append, List.length_singleton]
  · change List.countP _ (r.queue ++ [x]) ≤ 12
    rw [List.countP_append, List.countP_singleton]
    have hall := List.countP_le_length (p := fun y : Report => decide (y.kind = .notice)) (l := r.queue)
    split
    · next hx =>
      have := notice (of_decide_eq_true hx)
      omega
    · exact h.notices
  · have hlink : linkAfterAdmission r = .quiet := hquiet
    have hrest : r.hold = false := hhold
    unfold linkAfterAdmission at hlink
    split at hlink
    · cases hlink
    · next hnot => exact (hnot ⟨hlink, hrest⟩).elim

/-- The head begins when it may (R183). -/
theorem QueueOk.begin {r : Reports} (places : r.queue.length + r.reserved.toNat ≤ 16)
    (notices : (r.queue.countP fun x => decide (x.kind = .notice)) ≤ 12) (head : r.link = .head → r.queue ≠ []) :
    QueueOk (beginTransmission r) := by
  rw [beginTransmission_eq]
  refine ⟨places, notices, fun hlink => ?_, fun hquiet hhold => ?_⟩
  · by_cases hbegin : r.link = .quiet ∧ r.hold = false ∧ r.queue ≠ []
    · exact hbegin.2.2
    · exact head (by rwa [if_neg hbegin] at hlink)
  · by_contra hqueue
    by_cases hbegin : r.link = .quiet ∧ r.hold = false ∧ r.queue ≠ []
    · rw [if_pos hbegin] at hquiet
      cases hquiet
    · rw [if_neg hbegin] at hquiet
      exact hbegin ⟨hquiet, hhold, hqueue⟩

/-- TIME_UNSET and RESENT keep a payload's length (R6, R182). -/
theorem length_orFirst (bits : Word) (ws : List Word) : (orFirst bits ws).length = ws.length := by cases ws <;> rfl

theorem length_stampUnset (isSet : Bool) (ws : List Word) : (stampUnset isSet ws).length = ws.length := by
  cases isSet
  · exact length_orFirst _ ws
  · rfl

/-- A notice is short (R7, R185). -/
theorem length_noticePayload_le (unit : BitVec 6) (suppressed : Word) (n : Notice) :
    (noticePayload unit suppressed n).length ≤ 256 := by
  have hargs : (noticeArgs n).length ≤ 8 := by cases n <;> exact Nat.le_of_ble_eq_true rfl
  rw [noticePayload, List.length_append, List.length_cons, List.length_cons, List.length_cons, List.length_singleton]
  omega

/-- A report admitted into a free place, a notice where there are fewer than 12 reports (R178, R181). -/
theorem Orderly.pushReport (h : Orderly s) {kind : ReportKind} {payload : List Word} (place : occupancy s.reports < 16)
    (notice : kind = .notice → s.reports.queue.length < 12) (fits : payload.length ≤ 256) :
    Orderly (pushReport kind payload s) := by
  rw [pushReport_added]
  refine ⟨h.control, h.execution, h.inquiry, ⟨fun r hr => ?_, h.fits.2⟩, (reportsOk_iff).mpr ?_⟩
  · rcases List.mem_append.mp hr with hr | hr
    · exact h.fits.1 r hr
    · rw [List.mem_singleton.mp hr, length_stampUnset]
      exact fits
  · rw [occupancy] at place
    exact QueueOk.push ((reportsOk_iff).mp h.reports) (by omega) notice

/-- A notice served (R180, R181). -/
theorem Orderly.serveNotice (h : Orderly s) (n : Notice) : Orderly (serveNotice n s) := by
  unfold Machine.serveNotice
  split
  · next hadmissible =>
    obtain ⟨-, hroom⟩ := (ReportEvents.noticeAdmissible_iff).mp hadmissible
    have hcleared : Orderly { s with reports := { s.reports with suppressed := 0 } } :=
      ⟨h.control, h.execution, h.inquiry, h.fits, h.reports⟩
    rw [admitNotice_eq]
    refine hcleared.pushReport ?_ (fun _ => hroom) (length_noticePayload_le _ _ _)
    have := Bool.toNat_le s.reports.reserved
    rw [occupancy]
    change s.reports.queue.length + s.reports.reserved.toNat < 16
    omega
  · exact ⟨h.control, h.execution, h.inquiry, h.fits, h.reports⟩

theorem Orderly.noticeRequest (h : Orderly s) (n : Notice) : Orderly (noticeRequest n s) := by
  unfold Machine.noticeRequest
  split
  · exact h
  · exact (h.congr (t := setRequests (s.requests.erase n) s) rfl rfl).serveNotice n

/-- A report leaves the queue or RPT, and the next head begins (R183, R187). -/
theorem Orderly.reportCompletion (h : Orderly s) : Orderly (reportCompletion s) := by
  have hreports := (reportsOk_iff).mp h.reports
  have hquiet : RptLink.quiet = .head → s.reports.queue.tail ≠ [] := fun heq => RptLink.noConfusion heq
  have hquiet' : RptLink.quiet = .head → s.reports.queue ≠ [] := fun heq => RptLink.noConfusion heq
  unfold Machine.reportCompletion
  split
  · exact h
  · rw [beginTransmission_eq]
    refine ⟨h.control, h.execution, h.inquiry, ⟨fun r hr => h.fits.1 r (List.mem_of_mem_tail hr), h.fits.2⟩,
      (reportsOk_iff).mpr ?_⟩
    have hlength : s.reports.queue.tail.length ≤ s.reports.queue.length := (List.tail_sublist _).length_le
    have hbegun := QueueOk.begin (r := { s.reports with queue := s.reports.queue.tail, link := .quiet })
      ((Nat.add_le_add_right hlength _).trans hreports.places)
      (((List.tail_sublist _).countP_le).trans hreports.notices) hquiet
    rwa [beginTransmission_eq] at hbegun
  · rw [beginTransmission_eq]
    refine ⟨h.control, h.execution, h.inquiry, h.fits, (reportsOk_iff).mpr ?_⟩
    have hbegun := QueueOk.begin (r := { s.reports with link := .quiet }) hreports.places hreports.notices hquiet'
    rwa [beginTransmission_eq] at hbegun

theorem Orderly.rptHoldChange (h : Orderly s) (level : Bool) : Orderly (rptHoldChange level s) := by
  have hreports := (reportsOk_iff).mp h.reports
  have hbegun := QueueOk.begin (r := { s.reports with hold := level }) hreports.places hreports.notices hreports.head
  unfold Machine.rptHoldChange
  rw [beginTransmission_eq] at hbegun ⊢
  exact ⟨h.control, h.execution, h.inquiry, h.fits, (reportsOk_iff).mpr hbegun⟩

/-! ## The end of a block (R132) -/

/-- What a block needs to end with these entries: it is the head of the intake, with a place reserved if its reply is wanted, and its
response fits. -/
structure Ending (b : IntakeEntry) (rest : List IntakeEntry) (es : List ResultEntry) (s : State) : Prop where
  intake : s.control.intake = b :: rest
  reserved : s.reports.reserved = replyWanted b.payload
  count : es.length ≤ 16
  room : 4 + 2 * es.length + wordsGiven es ≤ 256
  inquiry : s.control.inquiry = none
  control : ControlOk s
  fits : ResponsesFit s
  reports : ReportsOk s

variable {b : IntakeEntry} {rest : List IntakeEntry} {es : List ResultEntry}

/-- The cache entry made for the head of the intake holds its key on (R132, R133). -/
theorem controlOk_finished (h : ControlOk s) (hintake : s.control.intake = b :: rest) {response : List Word} {c : Control}
    (hrest : c.intake = rest)
    (hcache : c.cache = (if s.control.cache.length < 8 then s.control.cache else s.control.cache.drop 1) ++
      [{ origin := b.origin, seq := b.seq, port := b.port, sweep := b.sweep, response := response }]) :
    ControlOk { s with control := c } := by
  obtain ⟨hfour, height, hnodup⟩ := h
  rw [hintake, List.map_cons, List.cons_append, List.nodup_cons] at hnodup
  rw [hintake, List.length_cons] at hfour
  refine ⟨by rw [hrest]; omega, ?_, ?_⟩
  · rw [hcache, List.length_append, List.length_singleton]
    split
    · omega
    · rw [List.length_drop]
      omega
  · have hfewer : (if s.control.cache.length < 8 then s.control.cache else s.control.cache.drop 1).Sublist s.control.cache := by
      split
      · exact List.Sublist.refl _
      · exact List.drop_sublist 1 _
    change (c.intake.map intakeKey ++ c.cache.map cacheKey).Nodup
    rw [hrest, hcache, List.map_append, ← List.append_assoc]
    refine (List.nodup_append_comm).mp (List.nodup_cons.mpr ⟨fun hmem => ?_, ?_⟩)
    · exact hnodup.1 (((hfewer.map cacheKey).append_left _).subset hmem)
    · exact hnodup.2.sublist ((hfewer.map cacheKey).append_left _)

theorem Ending.finishBlock (h : Ending b rest es s) (status : BlockStatus) : Orderly (finishBlock status es s) := by
  have hlength : (responsePayload s.control.unitAddr b status es).length ≤ 256 := by
    rw [responsePayload_length]
    exact h.room
  rw [finishBlock_eq h.intake]
  generalize responsePayload s.control.unitAddr b status es = payload at hlength ⊢
  have hreports := (reportsOk_iff).mp h.reports
  have hcached : ∀ e ∈ (finishedBy b rest payload s).control.cache, e.response.length ≤ 256 := by
    intro e he
    rcases List.mem_append.mp he with he | he
    · refine h.fits.2 e ?_
      split at he
      · exact he
      · exact List.mem_of_mem_drop he
    · rw [List.mem_singleton.mp he]
      exact hlength
  have hcontrol : ControlOk (finishedBy b rest payload s) := controlOk_finished h.control h.intake rfl rfl
  refine ⟨hcontrol, ?_, inquiryOk_of_none h.inquiry, ⟨?_, hcached⟩, (reportsOk_iff).mpr ?_⟩
  · change (finishedBy b rest payload s).reports.reserved = false
    unfold finishedBy
    cases hwanted : replyWanted b.payload with
    | true => rfl
    | false => exact h.reserved.trans hwanted
  · intro r hr
    unfold finishedBy at hr
    cases hwanted : replyWanted b.payload with
    | false =>
      simp only [hwanted, Bool.false_eq_true, if_false] at hr
      exact h.fits.1 r hr
    | true =>
      simp only [hwanted, if_true] at hr
      rcases List.mem_append.mp hr with hr | hr
      · exact h.fits.1 r hr
      · rw [List.mem_singleton.mp hr, length_stampUnset]
        exact hlength
  · unfold finishedBy
    cases hwanted : replyWanted b.payload with
    | false => exact hreports
    | true =>
      have hplaces := hreports.places
      rw [h.reserved, hwanted] at hplaces
      exact hreports.push (reserved := false) hplaces fun hkind => ReportKind.noConfusion hkind

theorem Ending.endBlock (h : Ending b rest es s) (status : BlockStatus) : Orderly (endBlock status es s) := by
  unfold Machine.endBlock
  split
  · have huse : Ending b rest es (useFinish s) :=
      ⟨h.intake, h.reserved, h.count, h.room, h.inquiry, h.control, h.fits, h.reports⟩
    exact huse.finishBlock status
  · refine ⟨h.control, ?_, inquiryOk_of_none h.inquiry, h.fits, h.reports⟩
    refine Executing.executionOk (x := { todo := [], entries := es, ended := some status }) (b := b) (rest := rest) ?_ rfl
    refine ⟨iff_of_true rfl (Option.some_ne_none _), ?_, ?_, h.intake, h.reserved⟩
    · rw [List.length_nil, Nat.zero_add]
      exact h.count
    · rw [List.length_nil, Nat.zero_add]
      exact h.room

/-! ## A directive's answer (R130, R131) -/

theorem wordsGiven_append (as bs : List ResultEntry) : wordsGiven (as ++ bs) = wordsGiven as + wordsGiven bs := by
  rw [wordsGiven, List.map_append, List.sum_append]
  rfl

theorem wordsGiven_singleton (r : ResultEntry) : wordsGiven [r] = r.results.length := Nat.add_zero _

/-- Directives not run give no words (R130). -/
theorem wordsGiven_notRun (todo : List Envelope) : wordsGiven (todo.map notRunEntry) = 0 := by
  induction todo with
  | nil => rfl
  | cons e todo ih =>
    rw [List.map_cons, ← List.singleton_append, wordsGiven_append, ih]
    rfl

/-- The entries of a block whose next directive has been answered within its room, the others not run (R130, R131). -/
theorem ending_answered {e : Envelope} {more : List Envelope} {x : Execution} {r : ResultEntry} (hx : Executing x b rest s)
    (htodo : x.todo = e :: more) (fits : r.results.length ≤ roomLeft x) :
    (x.entries ++ [r] ++ more.map notRunEntry).length ≤ 16 ∧
      4 + 2 * (x.entries ++ [r] ++ more.map notRunEntry).length + wordsGiven (x.entries ++ [r] ++ more.map notRunEntry) ≤ 256 := by
  have hcount := hx.count
  have hroom := hx.room
  rw [roomLeft] at fits
  rw [htodo, List.length_cons] at hcount hroom fits
  change _ ≤ 256 - 4 - 2 * (more.length + 1 + x.entries.length) - wordsGiven x.entries at fits
  rw [wordsGiven_append, wordsGiven_append, wordsGiven_notRun, wordsGiven_singleton, List.length_append, List.length_append,
    List.length_map, List.length_singleton]
  omega

/-- A directive's answer within its room, nothing else being asked (R130). -/
theorem Orderly.conclude (h : Orderly s) {e : Envelope} {r : ResultEntry} (idle : s.control.inquiry = none)
    (next : ∀ x, s.control.execution = some x → x.todo.head? = some e) (fits : r.results.length ≤ roomFor s) :
    Orderly (conclude r s) := by
  cases hx : s.control.execution with
  | none =>
    rw [Expiry.conclude_of_none hx]
    exact ⟨h.control, h.execution, h.inquiry, h.fits, h.reports⟩
  | some x =>
    obtain ⟨b, rest, hexecuting⟩ := executing_of_some h.execution hx
    obtain ⟨more, htodo⟩ : ∃ more, x.todo = e :: more := List.head?_eq_some_iff.mp (next x hx)
    have hnotended : x.ended = none := by
      by_contra hended
      exact List.cons_ne_nil e more (htodo.symm.trans (hexecuting.ended.mpr hended))
    rw [roomFor, hx] at fits
    obtain ⟨hcount, hroom⟩ := ending_answered hexecuting htodo fits
    unfold Machine.conclude
    simp only [hx, htodo, List.tail_cons]
    split
    · refine Ending.endBlock (b := b) (rest := rest) ?_ _
      exact ⟨hexecuting.intake, hexecuting.reserved, hcount, hroom, idle, h.control, h.fits, h.reports⟩
    · cases more with
      | nil =>
        rw [List.map_nil, List.append_nil] at hcount hroom
        refine Ending.endBlock (b := b) (rest := rest) ?_ _
        exact ⟨hexecuting.intake, hexecuting.reserved, hcount, hroom, idle, h.control, h.fits, h.reports⟩
      | cons e' more =>
        refine ⟨h.control, ?_, inquiryOk_of_none idle, h.fits, h.reports⟩
        refine Executing.executionOk (x := { todo := e' :: more, entries := x.entries ++ [r] }) (b := b) (rest := rest) ?_ rfl
        rw [wordsGiven_append, wordsGiven_notRun, Nat.add_zero, List.length_append, List.length_map] at hroom
        rw [List.length_append, List.length_map] at hcount
        refine ⟨iff_of_false (List.cons_ne_nil _ _) (not_not.mpr rfl), ?_, ?_, hexecuting.intake, hexecuting.reserved⟩
        · dsimp only
          omega
        · dsimp only
          omega

/-! ## Offers (R123, R124, R126, R133) -/

theorem Orderly.countControl (h : Orderly s) (f : ControlCounters → ControlCounters) : Orderly (countControl f s) :=
  ⟨h.control, h.execution, h.inquiry, h.fits, h.reports⟩

/-- A retry's response is one of the reply cache (R124, R133). -/
theorem response_mem_cache {origin seq : Word} {c : Control} {x : FirstCopy} {r : List Word}
    (h : findKey origin seq c = some x) (hr : x.response = some r) : ∃ e ∈ c.cache, e.response = r := by
  rw [findKey] at h
  cases hi : intakeMatch origin seq c with
  | some y =>
    rw [hi] at h
    obtain ⟨e, -, hy⟩ := Option.map_eq_some_iff.mp hi
    rw [← Option.some.inj h, ← hy] at hr
    cases hr
  | none =>
    rw [hi] at h
    obtain ⟨e, hfound, hx⟩ := Option.map_eq_some_iff.mp h
    rw [← hx] at hr
    exact ⟨e, List.mem_of_find?_eq_some hfound, Option.some.inj hr⟩

/-- A key found nowhere is held nowhere (R124). -/
theorem key_not_mem_of_findKey_none {origin seq : Word} {c : Control} (h : findKey origin seq c = none) :
    (origin, seq) ∉ c.intake.map intakeKey ++ c.cache.map cacheKey := by
  have hintake : intakeMatch origin seq c = none := by
    cases hi : intakeMatch origin seq c with
    | none => rfl
    | some y =>
      rw [findKey, hi] at h
      cases h
  have hcache : cacheMatch origin seq c = none := by rwa [findKey, hintake] at h
  rw [intakeMatch, Option.map_eq_none_iff, List.find?_eq_none] at hintake
  rw [cacheMatch, Option.map_eq_none_iff, List.find?_eq_none] at hcache
  intro hmem
  rcases List.mem_append.mp hmem with hmem | hmem
  · obtain ⟨e, he, hkey⟩ := List.mem_map.mp hmem
    obtain ⟨horigin, hseq⟩ := Prod.mk.inj hkey
    exact hintake e he (by rw [horigin, hseq, beq_self_eq_true, beq_self_eq_true]; rfl)
  · obtain ⟨e, he, hkey⟩ := List.mem_map.mp hmem
    obtain ⟨horigin, hseq⟩ := Prod.mk.inj hkey
    exact hcache e he (by rw [horigin, hseq, beq_self_eq_true, beq_self_eq_true]; rfl)

theorem Orderly.answerRetry (h : Orderly s) (wanted : Bool) {response : List Word} (fits : response.length ≤ 256) :
    Orderly (answerRetry wanted response s) := by
  unfold Machine.answerRetry
  split
  · exact h.countControl _
  · split
    · next hroom =>
      refine (h.countControl _).pushReport hroom (fun hkind => ReportKind.noConfusion hkind) ?_
      rw [markResent, length_orFirst]
      exact fits
    · exact h.countControl _

/-- A new block joins the intake behind the block in execution (R126). -/
theorem Orderly.admitted (h : Orderly s) {e : IntakeEntry} (room : s.control.intake.length < 4)
    (hnew : intakeKey e ∉ s.control.intake.map intakeKey ++ s.control.cache.map cacheKey) :
    Orderly (setControl { s.control with intake := s.control.intake ++ [e] } s) := by
  obtain ⟨-, height, hnodup⟩ := h.control
  refine ⟨⟨?_, height, ?_⟩, ?_, h.inquiry, h.fits, h.reports⟩
  · change (s.control.intake ++ [e]).length ≤ 4
    rw [List.length_append, List.length_singleton]
    exact room
  · change ((s.control.intake ++ [e]).map intakeKey ++ s.control.cache.map cacheKey).Nodup
    rw [List.map_append, List.append_assoc]
    exact (List.perm_middle.nodup_iff).mpr (List.nodup_cons.mpr ⟨hnew, hnodup⟩)
  · cases hx : s.control.execution with
    | none =>
      unfold ExecutionOk
      simp only [setControl, hx]
      exact reserved_of_none h.execution hx
    | some x =>
      obtain ⟨b, rest, hexecuting⟩ := executing_of_some h.execution hx
      have hintake : s.control.intake ++ [e] = b :: (rest ++ [e]) := by rw [hexecuting.intake, List.cons_append]
      exact Executing.executionOk (x := x)
        ⟨hexecuting.ended, hexecuting.count, hexecuting.room, hintake, hexecuting.reserved⟩ hx

theorem Orderly.admitControl (h : Orderly s) {o : Offer} (hnew : findKey (wordAt o.payload 1) o.seq s.control = none) :
    Orderly (admitControl o s) := by
  unfold Machine.admitControl
  split
  · next hroom => exact h.admitted hroom (key_not_mem_of_findKey_none hnew)
  · rw [intakeOverrun_eq]
    exact ⟨h.control, h.execution, h.inquiry, h.fits, h.reports⟩

theorem Orderly.judgeOffer (h : Orderly s) (o : Offer) : Orderly (judgeOffer o s) := by
  by_cases hmine : addressed o s
  · cases hfound : findKey (wordAt o.payload 1) o.seq s.control with
    | none =>
      rw [judgeOffer_of_new hmine hfound]
      exact h.admitControl hfound
    | some x =>
      rw [judgeOffer_of_found hmine hfound, meetFirstCopy]
      split
      · exact h.countControl _
      · split
        · exact h.countControl _
        · next r hr =>
          obtain ⟨e, he, heq⟩ := response_mem_cache hfound hr
          exact h.answerRetry _ (heq ▸ h.fits.2 e he)
  · rw [judgeOffer_of_not_addressed hmine]
    exact h.countControl _

theorem Orderly.serveOffer (h : Orderly s) (o : Offer) : Orderly (serveOffer o s) := by
  have hoffers (os : List Offer) : Orderly (setOffers os s) := h.congr rfl rfl
  unfold Machine.serveOffer
  split
  · exact hoffers [o]
  · exact h
  · exact h.judgeOffer o
  · split
    · exact (hoffers _).judgeOffer o
    · exact h

/-! ## The start of a block (R127, R128) -/

theorem Orderly.startBlock (h : Orderly s) (hmay : mayStart s = true) (hintake : s.control.intake = b :: rest) :
    Orderly (startBlock b s) := by
  obtain ⟨hnone, -, hidle, -, hroom⟩ := (mayStart_iff).mp hmay
  have hfree := reserved_of_none h.execution hnone
  obtain ⟨-, hnotices, hhead, hquiet⟩ := h.reports
  have hreserved : (s.reports.reserved || replyWanted b.payload) = replyWanted b.payload := by rw [hfree, Bool.false_or]
  have hreserve := reserveFor_eq b s
  rw [hreserved] at hreserve
  have hplaces : s.reports.queue.length + (replyWanted b.payload).toNat ≤ 16 := by
    have := Bool.toNat_le (replyWanted b.payload)
    omega
  unfold Machine.startBlock
  rw [hreserve]
  dsimp only
  split
  · refine Ending.endBlock (b := b) (rest := rest) ?_ _
    exact ⟨hintake, rfl, Nat.zero_le 16, by decide, hidle, h.control, h.fits, ⟨hplaces, hnotices, hhead, hquiet⟩⟩
  · next es hes =>
    obtain ⟨⟨hone, hsixteen⟩, hwalk⟩ := (DirectiveReference.envelopesOf_eq_some_iff).mp hes
    obtain ⟨hlength, -⟩ := DirectiveReference.eq_flatMap_of_walkEnvelopes hwalk
    rw [← hlength] at hone hsixteen
    refine ⟨h.control, ?_, inquiryOk_of_none hidle, h.fits, ⟨hplaces, hnotices, hhead, hquiet⟩⟩
    refine Executing.executionOk (x := { todo := es, entries := [] }) (b := b) (rest := rest) ?_ rfl
    refine ⟨iff_of_false (List.ne_nil_of_length_pos hone) (not_not.mpr rfl), ?_, ?_, hintake, rfl⟩
    · exact hsixteen
    · change 4 + 2 * (es.length + 0) + 0 ≤ 256
      omega

theorem Orderly.executionStart (h : Orderly s) : Orderly (executionStart s) := by
  unfold Machine.executionStart
  split
  · unfold startHead
    split
    · exact h
    · next hintake =>
      split
      · next hmay => exact h.startBlock hmay hintake
      · exact h
  · next x hx =>
    split
    · exact h
    · next status hended =>
      obtain ⟨b, rest, hexecuting⟩ := executing_of_some h.execution hx
      have hdone : x.todo = [] := hexecuting.ended.mpr (by rw [hended]; exact Option.some_ne_none _)
      have hidle : s.control.inquiry = none := by
        cases hq : s.control.inquiry with
        | none => rfl
        | some q =>
          obtain ⟨-, hnext, -⟩ := h.inquiry q (Option.mem_toList.mpr hq)
          have hhead := hnext x (Option.mem_toList.mpr hx)
          rw [hdone] at hhead
          cases hhead
      have hcount := hexecuting.count
      have hroom := hexecuting.room
      rw [hdone, List.length_nil, Nat.zero_add] at hcount hroom
      exact Ending.finishBlock (b := b) (rest := rest)
        ⟨hexecuting.intake, hexecuting.reserved, hcount, hroom, hidle, h.control, h.fits, h.reports⟩ status

end Sys2Proof.ControlAndReports
end


section
/-! Directives answered at once, inquiries and RESTART keep the bounds of the control unit and of the report generator (O59). -/

namespace Sys2Proof.ControlAndReports

open Sys2Proof.Machine Sys2Proof.Safety Sys2Proof.Elementary Sys2Proof.Inquiries Sys2Proof.Restarts

variable {s t : State}

/-! ## The directive issued (R129) -/

/-- An issuable directive is the next of the block in execution. -/
theorem next_of_issuable {e : Envelope} (h : issuable e s = true) (x : Execution) (hx : s.control.execution = some x) :
    x.todo.head? = some e := by
  rw [issuable, Bool.and_eq_true, hx] at h
  exact of_decide_eq_true h.2

/-- A directive of the table of inquiries asks owners in turn. -/
theorem asks_of_mem_inquiries {asks : Envelope × List Nat} (h : asks ∈ inquiries) : ∃ o, Asks asks.1 o := by
  rw [inquiries, List.mem_cons, List.mem_cons, List.mem_cons, List.mem_cons, List.mem_singleton] at h
  rcases h with rfl | rfl | rfl | rfl | rfl
  · exact ⟨_, .unitRead⟩
  · exact ⟨_, .portRead (p := .a) rfl⟩
  · exact ⟨_, .portRead (p := .b) rfl⟩
  · exact ⟨_, .portZero (p := .a) rfl⟩
  · exact ⟨_, .portZero (p := .b) rfl⟩

/-- While a directive that asks nobody may be issued, no inquiry is in progress (R129). -/
theorem no_inquiry_of_issuable {e : Envelope} (h : InquiryOk s) (issued : issuable e s = true) (no_owners : ∀ o, ¬ Asks e o) :
    s.control.inquiry = none := by
  cases hq : s.control.inquiry with
  | none => rfl
  | some q =>
    obtain ⟨-, -, asks, hasks, henvelope, -⟩ := h q (Option.mem_toList.mpr hq)
    obtain ⟨o, ho⟩ := asks_of_mem_inquiries hasks
    rw [← henvelope, own_of_issuable issued q hq] at ho
    exact (no_owners o ho).elim

/-- RESTART asks nobody. -/
theorem restart_no_owners (scope : RestartScope) (o : Owners) : ¬ Asks (restartEnvelope scope) o := by
  have hcode {d : Directive} {ps : List Word} (h : restartEnvelope scope = tableEnvelope d ps) : Directive.restart = d :=
    directiveCode_injective (congrArg Envelope.code h)
  intro h
  generalize he : restartEnvelope scope = e at h hcode
  cases h with
  | unitRead => cases hcode rfl
  | portRead => cases hcode rfl
  | portZero => cases hcode rfl

/-! ## Directives answered at once (R129, R130) -/

/-- The service of a directive leaves the block in execution and the inquiry. -/
theorem Orderly.served {G : Media → Prop} (h : Orderly s) (hserved : Served G s t) :
    Orderly t ∧ t.control.execution = s.control.execution ∧ t.control.inquiry = s.control.inquiry := by
  cases hserved with
  | moved h' =>
    have hmoves := h' True
    have hcontrol := (Reception.keepsControl_moves hmoves).control
    exact ⟨h.moves hmoves, by rw [hcontrol], by rw [hcontrol]⟩
  | adjusted range =>
    have hmoves := moves_adjusted (G := Scope.all G) trivial trivial range s
    have hcontrol := (Reception.keepsControl_moves hmoves).control
    exact ⟨h.moves hmoves, by rw [hcontrol], by rw [hcontrol]⟩
  | grouped => exact ⟨⟨h.control, h.execution, h.inquiry, h.fits, h.reports⟩, rfl, rfl⟩
  | masked => exact ⟨⟨h.control, h.execution, h.inquiry, h.fits, h.reports⟩, rfl, rfl⟩

theorem Orderly.directed {G : Media → Prop} {e : Envelope} {a : Answer} (h : Orderly s) (issued : issuable e s = true)
    (immediate : Immediate e) (service : Service G s (roomFor s) a) :
    Orderly (Machine.conclude { code := e.code, status := a.status, results := a.results } a.state) := by
  obtain ⟨hserved, hexecution, hinquiry⟩ := h.served service.served
  refine hserved.conclude (e := e) (hinquiry.trans (no_inquiry_of_issuable h.inquiry issued immediate.no_owners))
    (fun x hx => next_of_issuable issued x (hexecution.symm.trans hx)) ?_
  rw [roomFor, hexecution]
  exact service.fits

/-! ## Inquiries (R143, R146) -/

/-- The figures of the owners that a directive asks, of the lengths the table gives. -/
theorem figures_of_asks {e : Envelope} {o : Owners} (h : Asks e o) (s : State) :
    ∃ figures : List (List Word), (e, figures.map List.length) ∈ inquiries ∧ o.count = figures.length ∧
      ∀ k < figures.length, o.words k s = figures.getD k [] := by
  have hport {ps : List Word} {p : PortId} (names : formPort ps = .ok p) : ps = [0] ∨ ps = [1] := by
    match ps, names with
    | [w], names =>
      change portParam w = .ok p at names
      unfold portParam at names
      split at names
      · next hw => exact .inl (by rw [hw])
      · split at names
        · next hw => exact .inr (by rw [hw])
        · cases names
  cases h with
  | unitRead => exact ⟨unitFigures s, List.mem_cons_self, rfl, fun _ _ => rfl⟩
  | @portRead ps p names =>
    refine ⟨[portFigure p s 0, portFigure p s 1], ?_, rfl, fun k hk => ?_⟩
    · change (tableEnvelope .portRead ps, [17, 2]) ∈ inquiries
      rcases hport names with rfl | rfl <;> decide
    · match k, hk with
      | 0, _ => rfl
      | 1, _ => rfl
  | @portZero ps p names =>
    refine ⟨[[], []], ?_, rfl, fun k hk => ?_⟩
    · change (tableEnvelope .portZero ps, [0, 0]) ∈ inquiries
      rcases hport names with rfl | rfl <;> decide
    · match k, hk with
      | 0, _ => rfl
      | 1, _ => rfl

/-- What the owners asked do leaves the control unit, the report generator and the surroundings' choices. -/
theorem effects_keep {e : Envelope} {o : Owners} (h : Asks e o) (ks : List Nat) (s : State) :
    (ks.foldl (fun t k => o.effect k t) s).control = s.control ∧ (ks.foldl (fun t k => o.effect k t) s).reports = s.reports ∧
      (ks.foldl (fun t k => o.effect k t) s).surroundings = s.surroundings := by
  have heffect (k : Nat) (t : State) : (o.effect k t).control = t.control ∧ (o.effect k t).reports = t.reports ∧
      (o.effect k t).surroundings = t.surroundings := by
    cases h with
    | unitRead => exact ⟨rfl, rfl, rfl⟩
    | portRead => exact ⟨rfl, rfl, rfl⟩
    | portZero => cases k <;> exact ⟨rfl, rfl, rfl⟩
  induction ks generalizing s with
  | nil => exact ⟨rfl, rfl, rfl⟩
  | cons k ks ih =>
    obtain ⟨hcontrol, hreports, hsurroundings⟩ := ih (o.effect k s)
    obtain ⟨hcontrol', hreports', hsurroundings'⟩ := heffect k s
    exact ⟨hcontrol.trans hcontrol', hreports.trans hreports', hsurroundings.trans hsurroundings'⟩

/-- An answer within the room, or NO_ROOM (R131). -/
theorem Orderly.readOut (h : Orderly s) {e : Envelope} {code : BitVec 8} {room : Nat} (ws : List Word) (hroom : room = roomFor s)
    (idle : s.control.inquiry = none) (next : ∀ x, s.control.execution = some x → x.todo.head? = some e) :
    Orderly (Machine.conclude
      { code := code, status := (readOut room ws s).status, results := (readOut room ws s).results } (readOut room ws s).state) := by
  rcases Nat.lt_or_ge room ws.length with hlong | hfits
  · rw [readOut_of_lt hlong]
    exact h.conclude idle next (Nat.zero_le _)
  · rw [readOut_of_le hfits]
    exact h.conclude idle next (hroom ▸ hfits)

theorem Orderly.inquired {e : Envelope} {o : Owners} (h : Orderly s) (issued : issuable e s = true) (asks : Asks e o) :
    Orderly (advanceInquiry e o s) := by
  have own := own_of_issuable issued
  obtain ⟨figures, hmem, hcount, hfigures⟩ := figures_of_asks asks s
  obtain ⟨hcontrol, hreports, hsurroundings⟩ := effects_keep asks (ownersNow o (inquiryOf e s) s) s
  have hasked : Asked e o s _ _ _ := ⟨own, rfl, rfl, hcontrol, hsurroundings, rfl⟩
  have hasking : (askOwners o (inquiryOf e s) s).control = s.control := by rw [hasked.askOwners_eq]; exact hcontrol
  have horderly : Orderly (askOwners o (inquiryOf e s) s) := h.congr hasking (by rw [hasked.askOwners_eq]; exact hreports)
  rcases Nat.lt_or_ge (inquiryNow o (inquiryOf e s) s).asked o.count with hleft | hlast
  · rw [advanceInquiry_of_lt hleft]
    refine ⟨horderly.control, horderly.execution, fun q hq => ?_, horderly.fits, horderly.reports⟩
    obtain rfl : inquiryNow o (inquiryOf e s) s = q := Option.some.inj (Option.mem_toList.mp hq)
    change (askOwners o (inquiryOf e s) s).control.restart = none ∧
      (∀ x ∈ (askOwners o (inquiryOf e s) s).control.execution.toList, _) ∧ _
    rw [hasking]
    rw [hasked.inquiryNow_eq] at hleft ⊢
    refine ⟨TimeAndList.no_restart_of_issuable issued fun scope heq => restart_no_owners scope o (heq ▸ asks),
      fun x hx => next_of_issuable issued x (Option.mem_toList.mp hx), (e, figures.map List.length), hmem, rfl, ?_, ?_⟩
    · rw [List.length_map, ← hcount]
      exact hleft
    · obtain ⟨hgiven, -⟩ := given_length h.inquiry hmem own
      have hbase := inquiryOf_eq own
      have hnow := ownersNow_eq_take o (inquiryOf e s) s
      rw [show (inquiryOf e s).asked = askedSoFar s by rw [hbase], hcount] at hnow
      generalize ownersNow o (inquiryOf e s) s = ks at hnow ⊢
      have hwords : (ks.flatMap fun k => o.words k s) = ((figures.drop (askedSoFar s)).take ks.length).flatten :=
        (congrArg (List.flatMap fun k => o.words k s) hnow).trans (flatMap_figures hfigures _ _)
      rw [hwords, List.length_append, hgiven, List.length_flatten, List.map_take, List.map_drop, List.take_add, List.sum_append]
  · rw [advanceInquiry_of_le hlast]
    have hidle : Orderly (setInquiry none (askOwners o (inquiryOf e s) s)) :=
      ⟨horderly.control, horderly.execution, inquiryOk_of_none rfl, horderly.fits, horderly.reports⟩
    refine hidle.readOut (e := e) _ rfl rfl fun x hx => next_of_issuable issued x ?_
    rw [← hasking]
    exact hx

/-! ## RESTART (R136, R137) -/

/-- A RESTART begun leaves the control unit but for the RESTART in progress, and the report generator. -/
theorem beginRestart_keeps (scope : RestartScope) (s : State) :
    ∃ r, (beginRestart scope s).control = { s.control with restart := some r } ∧ (beginRestart scope s).reports = s.reports := by
  unfold beginRestart
  cases hr : s.control.restart with
  | some r => exact ⟨r, congrArg (fun x : Option RestartInProgress => { s.control with restart := x }) hr, rfl⟩
  | none =>
    cases scope with
    | lanes => exact ⟨_, rfl, rfl⟩
    | full =>
      have hkept := Reception.keepsControl_moves (moves_afterService (G := Scope.all fun _ => True) trivial trivial s)
      refine ⟨{ scope := .full, waiting := List.finRange 16 }, ?_, hkept.reports⟩
      exact congrArg (fun c : Control => { c with restart := some { scope := .full, waiting := List.finRange 16 } }) hkept.control

theorem restartLanes_keeps (r : RestartInProgress) (s : State) :
    ∃ r', (restartLanes r s).control = { s.control with restart := some r' } ∧ (restartLanes r s).reports = s.reports :=
  ⟨_, rfl, (Reception.keepsControl_moves (moves_foldl_restartLane (G := fun _ => True) r.scope (turnOf r s) s)).reports⟩

/-- A step of a RESTART goes on, or ends one that leaves the control unit and the report generator till then. -/
theorem advanceRestart_cases (scope : RestartScope) (s : State) :
    ∃ t r, t.control = { s.control with restart := some r } ∧ t.reports = s.reports ∧
      (advanceRestart scope s = t ∨ advanceRestart scope s = endRestart scope t) := by
  obtain ⟨r, hcontrol, hreports⟩ := beginRestart_keeps scope s
  obtain ⟨r', hcontrol', hreports'⟩ := restartLanes_keeps r (beginRestart scope s)
  refine ⟨restartLanes r (beginRestart scope s), r', by rw [hcontrol', hcontrol], hreports'.trans hreports, ?_⟩
  unfold advanceRestart
  rw [show (beginRestart scope s).control.restart = some r by rw [hcontrol]]
  dsimp only
  split
  · exact .inl rfl
  · exact .inr rfl

/-- The end of RESTART LANES (R136). -/
theorem Orderly.endRestartLanes (h : Orderly s) (idle : s.control.inquiry = none)
    (next : ∀ x, s.control.execution = some x → x.todo.head? = some (restartEnvelope .lanes)) :
    Orderly (endRestart .lanes s) := by
  have hstore : (restartStore (setControl { s.control with restart := none } s)).control = { s.control with restart := none } ∧
      (restartStore (setControl { s.control with restart := none } s)).reports = s.reports := by
    unfold restartStore
    split <;> exact ⟨rfl, rfl⟩
  obtain ⟨hcontrol, hreports⟩ := hstore
  have hfree : Orderly (setControl { s.control with restart := none } s) :=
    ⟨h.control, h.execution, inquiryOk_of_none idle, h.fits, h.reports⟩
  have hrequested := hfree.congr
    (t := request (.unitRestarted .lanes) (restartStore (setControl { s.control with restart := none } s))) hcontrol hreports
  refine hrequested.conclude (e := restartEnvelope .lanes) (r := restartEntry) ?_ (fun x hx => next x ?_) (Nat.zero_le _)
  · exact (congrArg Control.inquiry hcontrol).trans idle
  · exact (congrArg Control.execution hcontrol).symm.trans hx

/-- The response of the block that carries RESTART FULL fits (R131, R137). -/
theorem carriedBy_fits (h : ExecutionOk s)
    (next : ∀ x, s.control.execution = some x → x.todo.head? = some (restartEnvelope .full)) :
    (carriedBy s.control).length ≤ 1 ∧ ∀ c ∈ carriedBy s.control, c.2.length ≤ 256 := by
  have hnone : ([] : List (IntakeEntry × List Word)).length ≤ 1 ∧
      ∀ c ∈ ([] : List (IntakeEntry × List Word)), c.2.length ≤ 256 := ⟨Nat.zero_le 1, fun c hc => absurd hc List.not_mem_nil⟩
  cases hx : s.control.execution with
  | none =>
    rw [carriedBy, hx]
    exact hnone
  | some x =>
    obtain ⟨b, rest, hexecuting⟩ := executing_of_some h hx
    obtain ⟨more, htodo⟩ : ∃ more, x.todo = restartEnvelope .full :: more := List.head?_eq_some_iff.mp (next x hx)
    obtain ⟨-, hroom⟩ := ending_answered (r := restartEntry) hexecuting htodo (Nat.zero_le _)
    rw [carriedBy, hx, hexecuting.intake]
    refine ⟨le_rfl, fun c hc => ?_⟩
    rw [List.mem_singleton.mp hc]
    change (restartResponse s.control b x).length ≤ 256
    rw [restartResponse, responsePayload_length, htodo]
    exact hroom

/-- The time base after the restarts that end a RESTART FULL, and the notices served then (R73, R137). -/
theorem time_drained (s : State) : (drainRequests (restartStore (restartBeside s))).time = { tb := 0, isSet := false } := by
  have hstore : (restartStore (restartBeside s)).time = { tb := 0, isSet := false } := by
    unfold restartStore
    split <;> rfl
  rw [drainRequests, foldl_serveNotice_eq]
  exact hstore

/-- The report queue after RESTART FULL: the response, when one is wanted, and UNIT_RESTARTED (R137, R187). -/
theorem queueOk_restarted (r : Reports) {responses : List Report} (fewer : responses.length ≤ 1) {x : Report} {seq : Word} :
    QueueOk
      { queue := responses ++ [x], seq := seq, mask := 0xFF, suppressed := 0, reserved := false, link := linkAfterRestart r
        hold := r.hold } := by
  have hlength : (responses ++ [x]).length ≤ 2 := by
    rw [List.length_append, List.length_singleton]
    omega
  refine ⟨?_, List.countP_le_length.trans (hlength.trans (by decide)),
    fun _ => List.append_ne_nil_of_right_ne_nil _ (List.cons_ne_nil _ _), fun hquiet hhold => ?_⟩
  · exact hlength.trans (by decide)
  · have hlink : linkAfterRestart r = .quiet := hquiet
    have hrest : r.hold = false := hhold
    unfold linkAfterRestart at hlink
    split at hlink
    · cases hlink
    · cases hlink
    · rw [hrest] at hlink
      cases hlink

/-- The end of RESTART FULL (R137). -/
theorem Orderly.endRestartFull (h : ExecutionOk s)
    (next : ∀ x, s.control.execution = some x → x.todo.head? = some (restartEnvelope .full)) :
    Orderly (endRestartFull s) := by
  obtain ⟨hone, hfits⟩ := carriedBy_fits h next
  rw [endRestartFull_eq, restartReports_eq]
  · have hresponse : ∀ payload ∈ (((carriedBy s.control).filter fun c => replyWanted c.1.payload).head?.map (·.2)).toList,
        payload.length ≤ 256 := by
      intro payload hpayload
      obtain ⟨c, hc, rfl⟩ := Option.map_eq_some_iff.mp (Option.mem_toList.mp hpayload)
      exact hfits c (List.mem_filter.mp (List.mem_of_head? hc)).1
    generalize ((carriedBy s.control).filter fun c => replyWanted c.1.payload).head?.map (·.2) = response at hresponse ⊢
    refine ⟨⟨Nat.zero_le 4, ?_, ?_⟩, rfl, inquiryOk_of_none rfl, ⟨fun r hr => ?_, fun e he => ?_⟩, (reportsOk_iff).mpr ?_⟩
    · change ((carriedBy s.control).map carriedEntry).length ≤ 8
      rw [List.length_map]
      omega
    · change ([] ++ ((carriedBy s.control).map carriedEntry).map cacheKey).Nodup
      rw [List.nil_append]
      refine List.nodup_iff_sublist.mpr fun k hk => ?_
      have := hk.length_le
      rw [List.length_map, List.length_map] at this
      change 2 ≤ _ at this
      omega
    · rcases List.mem_append.mp hr with hr | hr
      · obtain ⟨payload, hpayload, rfl⟩ := List.mem_map.mp hr
        rw [length_orFirst]
        exact hresponse payload hpayload
      · rw [List.mem_singleton.mp hr]
        exact Nat.le_of_ble_eq_true rfl
    · obtain ⟨c, hc, rfl⟩ := List.mem_map.mp he
      exact hfits c hc
    · refine queueOk_restarted _ ?_
      rw [List.length_map]
      cases response
      · exact Nat.zero_le 1
      · exact le_rfl
  · exact time_drained s

theorem Orderly.restarting (h : Orderly s) {scope : RestartScope} (issued : issuable (restartEnvelope scope) s = true) :
    Orderly (advanceRestart scope s) := by
  have hidle := no_inquiry_of_issuable h.inquiry issued (restart_no_owners scope)
  obtain ⟨t, r, hcontrol, hreports, hstep⟩ := advanceRestart_cases scope s
  have hbegun : Orderly { s with control := { s.control with restart := some r } } :=
    ⟨h.control, h.execution, inquiryOk_of_none hidle, h.fits, h.reports⟩
  have ht : Orderly t := hbegun.congr hcontrol hreports
  have hnext (x : Execution) (hx : t.control.execution = some x) : x.todo.head? = some (restartEnvelope scope) :=
    next_of_issuable issued x ((congrArg Control.execution hcontrol).symm.trans hx)
  rcases hstep with hstep | hstep
  · rwa [hstep]
  · rw [hstep]
    cases scope with
    | lanes => exact ht.endRestartLanes ((congrArg Control.inquiry hcontrol).trans hidle) hnext
    | full => exact Orderly.endRestartFull (s := setControl { t.control with restart := none } t) ht.execution hnext

/-! ## Every command -/

/-- The values after hard reset (R139, R187). -/
theorem orderly_hardReset (straps : BitVec 6) (s : State) : Orderly (hardReset straps s) := by
  have hqueue : QueueOk (hardResetReports straps s.reports.hold) :=
    QueueOk.begin (Nat.le_of_ble_eq_true rfl) (Nat.le_of_ble_eq_true rfl) fun heq => RptLink.noConfusion heq
  have hkept := beginTransmission_eq
    { queue := [{ kind := .notice, seq := 0, pts := 0
                  payload := stampUnset false (noticePayload straps 0 (.unitRestarted .hard)) }]
      seq := 1, mask := 0xFF, suppressed := 0, reserved := false, link := .quiet, hold := s.reports.hold }
  have hreserved : (hardResetReports straps s.reports.hold).reserved = false := congrArg Reports.reserved hkept
  have hpayload : ∀ r ∈ (hardResetReports straps s.reports.hold).queue, r.payload.length ≤ 256 := by
    rw [show (hardResetReports straps s.reports.hold).queue = _ from congrArg Reports.queue hkept]
    intro r hr
    rw [List.mem_singleton.mp hr]
    exact Nat.le_of_ble_eq_true rfl
  exact ⟨⟨Nat.zero_le 4, Nat.zero_le 8, List.nodup_nil⟩, hreserved, inquiryOk_of_none rfl,
    ⟨hpayload, fun e he => absurd he List.not_mem_nil⟩, (reportsOk_iff).mpr hqueue⟩

theorem Orderly.commanded {G : Media → Prop} (h : Orderly s) (hcommand : Commanded G s t) : Orderly t := by
  cases hcommand with
  | reset straps => exact orderly_hardReset straps s
  | event moves => exact h.moves (moves True True)
  | ticked => exact h.moves (moves_tick (G := Scope.all fun _ => True) trivial s)
  | expired => exact h.moves (moves_expiry (G := Scope.all fun _ => True) trivial trivial s)
  | walked => exact h.moves (moves_overdueRequest (G := Scope.all fun _ => True) trivial trivial s)
  | offered o => exact h.serveOffer o
  | started => exact h.executionStart
  | noticed n => exact h.noticeRequest n
  | completed => exact h.reportCompletion
  | holdChanged level => exact h.rptHoldChange level
  | directed issued immediate service => exact h.directed issued immediate service
  | inquired issued asks => exact h.inquired issued asks
  | restarting issued => exact h.restarting issued

/-- Settles O59: every command either keeps control unit and report generator, or admits a report, serves an offer, starts or ends a
block, answers a directive, asks its owners, or restarts. -/
theorem stepKeepsControlAndReports : Obligations.StepKeepsControlAndReports := by
  intro s t control execution inquiry fits reports h
  have hs : Orderly s := ⟨control, execution, inquiry, fits, reports⟩
  have ht : Orderly t := by
    unfold step at h
    split at h
    · cases h
      exact hs
    · next c rest _ =>
      obtain ⟨u, hu, hcommanded⟩ := exec_commanded (G := fun _ => True) c (s := { s with pending := rest }) fun _ _ _ => trivial
      rw [h] at hu
      cases hu
      exact (hs.congr (t := { s with pending := rest }) rfl rfl).commanded hcommanded
  exact ⟨ht.control, ht.execution, ht.inquiry, ht.fits, ht.reports⟩

end Sys2Proof.ControlAndReports
end
